-- ==== Sys2Proof/Word.lean ====
section
/-! DEFINITION. The word types of the core: bytes, 16-bit and 32-bit words and the 40-bit command word (R12, R100). -/

namespace Sys2Proof

/-- A byte: the wire's and the payload buffer's cell (R70). -/
abbrev Byte := BitVec 8

/-- A 16-bit value: a duration, a register address, a checksum, a channel value. -/
abbrev Half := BitVec 16

/-- A 32-bit value: a counter or the value of a register read (R45). -/
abbrev Word := BitVec 32

/-- One command word (R100). -/
abbrev CommandWord := BitVec 40

end Sys2Proof
end

