-- ==== Sys2Proof/Syntax.lean ====
section
/-! DEFINITION. The commands: one constructor per row of spec/opcode_table.json (R104). -/

namespace Sys2Proof

/-- The eight commands with their operands (R102, R103). -/
inductive Instr where
  | nop
  | burst
  | pulse (low high : Half)
  | byte (b : Byte)
  | hsstart
  | hstick
  | rd (addr : Half)
  | wr (addr data : Half)
  deriving DecidableEq, Repr

end Sys2Proof
end

