-- ==== Sys2Proof/Decode.lean ====
section
/-! DEFINITION. Decoding a command word, total, with named errors (R100 to R108), and after it the encoder. The third
check of R108, the front end, needs the configuration and stands in the meanings. -/

namespace Sys2Proof

/-- Why a word is no command. The step takes IllegalCommand for each (R105, R106). -/
inductive DecodeError where
  /-- Opcode 0x08 to 0xFF (R105). -/
  | reservedOpcode (op : Byte)
  /-- A field that R102 marks "must be 0" is not 0 (R106). -/
  | nonZeroField
  deriving DecidableEq, Repr

/-- The opcode field OP, bits [39:32] (R101). -/
def opField (w : CommandWord) : Byte := w.extractLsb' 32 8

/-- The operand field A, bits [31:16] (R101). -/
def aField (w : CommandWord) : Half := w.extractLsb' 16 16

/-- The operand field B, bits [15:0] (R101). -/
def bField (w : CommandWord) : Half := w.extractLsb' 0 16

/-- The high byte of B, which format Y requires to be 0 (R102). -/
def bHigh (w : CommandWord) : Byte := w.extractLsb' 8 8

/-- The byte operand of format Y, B[7:0] (R103). -/
def bLow (w : CommandWord) : Byte := w.extractLsb' 0 8

/-- The must-be-zero check of R106. -/
def requireZero (fieldsAreZero : Bool) (i : Instr) : Except DecodeError Instr :=
  if fieldsAreZero then .ok i else .error .nonZeroField

/-- Decode one command word: first the opcode, then the must-be-zero fields (R104, R108). -/
def decode (w : CommandWord) : Except DecodeError Instr :=
  match (opField w).toNat with
  | 0 => requireZero (aField w == 0 && bField w == 0) .nop
  | 1 => requireZero (aField w == 0 && bField w == 0) .burst
  | 2 => .ok (.pulse (aField w) (bField w))
  | 3 => requireZero (aField w == 0 && bHigh w == 0) (.byte (bLow w))
  | 4 => requireZero (aField w == 0 && bField w == 0) .hsstart
  | 5 => requireZero (aField w == 0 && bField w == 0) .hstick
  | 6 => requireZero (bField w == 0) (.rd (aField w))
  | 7 => .ok (.wr (aField w) (bField w))
  | _ => .error (.reservedOpcode (opField w))

/-- The command word whose bits are `w`, of which the table gives `nbits`. The core takes its 40 bits as one word (R100,
log 21): a command is no sequence of bytes, so bit n of `w` is bit n of the word. -/
def tableWord (nbits w : Nat) : CommandWord := BitVec.ofNat 40 (w % 2 ^ nbits)

/-- The command the decoder reads from a row's bits; none where it refuses or the bits do not fit in a word. -/
def decodeTableWord (nbits w : Nat) : Option Instr :=
  if w % 2 ^ nbits < 2 ^ 40 then
    match decode (tableWord nbits w) with
    | .ok i => some i
    | .error _ => none
  else none

/-- A command word from its three fields (R101). -/
def packWord (op : Byte) (a b : Half) : CommandWord := (op ++ a ++ b : BitVec (8 + 16 + 16))

/-- The word of a command (R102 to R104). -/
def encode : Instr → CommandWord
  | .nop => packWord 0x00 0 0
  | .burst => packWord 0x01 0 0
  | .pulse low high => packWord 0x02 low high
  | .byte b => packWord 0x03 0 (b.setWidth 16)
  | .hsstart => packWord 0x04 0 0
  | .hstick => packWord 0x05 0 0
  | .rd addr => packWord 0x06 addr 0
  | .wr addr data => packWord 0x07 addr data

end Sys2Proof
end

