-- ==== Sys2Proof/Config.lean ====
section
/-! DEFINITION. What is fixed for one core: the synthesis parameters of R9 (held in State, so that every statement about
every state covers every configuration), the constants the spec settles, and the free values. -/

namespace Sys2Proof

/-- `FRONT_END` (R9, R107). -/
inductive FrontEnd where
  | pulse
  | byte
  deriving DecidableEq, Repr

/-- `PRESENCE_RULE` (R9, R266). -/
inductive PresenceRule where
  | accepted
  | channelWrite
  deriving DecidableEq, Repr

/-- The synthesis parameters of R9, in the widths of the `PARAMS` and `PARAMS2` registers (R50). -/
structure Params where
  headerMarker : Byte
  dirShift : BitVec 3
  dirToHost : Byte
  kindChannelValues : Byte
  offsetK : Half
  frontEnd : FrontEnd
  presenceRule : PresenceRule
  pollBound : Byte
  queryPacket : List Byte
  deriving DecidableEq, Repr

namespace Config

/-- The example configuration of R10. DESIGN CHOICE (log 1): State.reset has it, with the front end PULSE. Unsafe only
for a statement that rests on these values. -/
def exampleParams : Params where
  headerMarker := 0x55
  dirShift := 4
  dirToHost := 1
  kindChannelValues := 0xC
  offsetK := 2048
  frontEnd := .pulse
  presenceRule := .accepted
  pollBound := 70
  queryPacket := [0x55, 0x01, 0x00, 0x93, 0x4A]

/-- The example configuration with the byte front end. -/
def exampleByteParams : Params := { exampleParams with frontEnd := .byte }

/-- `PAYLOAD_CAP` (R9, R39). -/
def payloadCap : Nat := 255

/-- The reset value of `UNIT` (R46, R57). -/
def unitReset : Half := 43

/-- FREE VALUE (log 3): what payload byte `i` reads as when nothing has written it since the `n`-th reset (R57 and
93_implementation_defined.md I1: any value). Safe: no proof can see it. -/
opaque unwrittenByte (n i : Nat) : Byte

/-- FREE VALUE (log 5): the quotient of a duration by a `UNIT` of 0, which no legal state holds (R46). Safe. -/
opaque quotientByZero (duration : Half) : Half

end Config

end Sys2Proof
end

