-- ==== Sys2Proof/Machine/State.lean ====
section
/-! DEFINITION. The state of one core as plain data (R32), with the channel table it writes (R53), its output events
(R52), its parameters (R9) and its input stream (R31); its faults and refusals; and the state after reset (R57). -/

namespace Sys2Proof.Machine

/-- `FSTATE`, the framer states of R33 by name. The value 7 is never written and has no constructor. -/
inductive FrameState where
  | awaitHeader
  | awaitId
  | awaitLength
  | awaitData
  | awaitTrailer
  | awaitChecksum
  | validate
  deriving DecidableEq, Repr

/-- `HS_STATE` (R43). -/
inductive HsState where
  | idle
  | polling
  | success
  | failed
  deriving DecidableEq, Repr

/-- The output events of R52, with the argument widths of R110. -/
inductive Event where
  | chWrite (i : Fin 4) (v : Half)
  | txQuery (p : List Byte)
  | rxRelease
  | hsResult (ok : Bool)
  | rsp (d : Word)
  | byteOut (b : Byte)
  deriving DecidableEq, Repr

/-- What arrives at the core from outside: a command word (R100), or a reset between two commands (R350, R352). -/
inductive PortInput where
  | command (w : CommandWord)
  | reset
  deriving DecidableEq, Repr

/-- Where the machine stops because an address does not exist. -/
inductive Fault where
  /-- Raised by the framer's AwaitData arm when DIDX is 255, past the payload buffer's last index 254 (R39). No state
  that meets the invariant of R56 reaches it (log 7). Safe: the model stops. -/
  | payloadIndex (i : Nat)
  deriving DecidableEq, Repr

/-- Where the model gives no meaning. -/
inductive Refusal where
  /-- Raised by `exec` for an instruction without a meaning. No arm does. Safe. -/
  | notModelled (mnemonic : String)
  /-- Raised by the step when the parameters are no legal combination (R11 and 93_implementation_defined.md I11: refuse;
  log 8). Safe. -/
  | illegalConfiguration
  /-- Raised by the framer step when FSTATE holds Validate between commands, a state that is ill-formed (R33 and
  93_implementation_defined.md I8: refuse; log 6). Safe. -/
  | heldValidate
  deriving DecidableEq, Repr

/-- The state of R32 and what surrounds it. -/
structure State where
  /-- The synthesis parameters (R9). No command writes them. -/
  params : Params
  /-- `FSTATE` (R33). -/
  fstate : FrameState
  /-- `CURSOR` (R34). -/
  cursor : BitVec 3
  /-- `ACC` (R35). -/
  acc : Byte
  /-- `HDR` (R36). -/
  hdr : Byte
  /-- `ID` (R37). -/
  idByte : Byte
  /-- `LEN` (R38). -/
  len : Byte
  /-- `DIDX` (R40). -/
  didx : Byte
  /-- `DATA[0..254]` (R39): the bytes written since reset, by rising index. -/
  data : List Host.Cell
  /-- `CK` (R41). -/
  ck : Half
  /-- `CKIDX` (R41). -/
  ckidx : BitVec 1
  /-- `valid` (R42). -/
  valid : Bool
  /-- `ACCEPT_CNT` (R44). -/
  acceptCnt : Word
  /-- `REJECT_CNT` (R44). -/
  rejectCnt : Word
  /-- `RX_EN` (R43). -/
  rxEn : Bool
  /-- `HS_STATE` (R43). -/
  hsState : HsState
  /-- `HS_COUNT` (R43). -/
  hsCount : Byte
  /-- `PRESENCE` (R43). -/
  presence : Bool
  /-- `CMD_ERR` (R54). -/
  cmdErr : Bool
  /-- `UNIT` (R46). -/
  unit : Half
  /-- The channel table `CH[0..3]` (R53): external, never read by the core. -/
  ch : Vector Half 4
  /-- The output events of the command just run (R52). -/
  out : List Event
  /-- The model's own field: what the host has presented and the core has not yet taken (R31, R352; log 2). -/
  pending : List PortInput
  /-- The model's own field: the concatenation of the output event lists, a run's observation (R362; log 11). -/
  history : List Event
  /-- The model's own field: how many resets were taken. It selects the free values of `DATA` (log 3). -/
  resets : Nat
  deriving DecidableEq, Repr

namespace State

/-- The state after reset of a core with parameters `p` (R57). Two values are not the spec's: the channel table, which
no reset touches, starts at 0 (DESIGN CHOICE, log 4), and nothing is pending (DESIGN CHOICE, log 2). -/
def resetOf (p : Params) : State where
  params := p
  fstate := .awaitHeader
  cursor := 0
  acc := 0
  hdr := 0
  idByte := 0
  len := 0
  didx := 0
  data := []
  ck := 0
  ckidx := 0
  valid := false
  acceptCnt := 0
  rejectCnt := 0
  rxEn := false
  hsState := .idle
  hsCount := 0
  presence := false
  cmdErr := false
  unit := Config.unitReset
  ch := Vector.replicate 4 0
  out := []
  pending := []
  history := []
  resets := 0

/-- The machine right after reset (R57), in the example configuration of R10 (DESIGN CHOICE, log 1). -/
def reset : State := resetOf Config.exampleParams

end State

end Sys2Proof.Machine
end

