-- ==== Sys2Proof/WellFormed.lean ====
section
/-! DEFINITION. Well-formedness: which parameter combinations are a core (R9, R11), and which commands a front end has
(R107). Every operand of `Instr` has its field's width, so no operand can be out of range. -/

namespace Sys2Proof

namespace Params

/-- `DIR_SHIFT` is in 1..7 (R9). -/
def dirShiftInRange (p : Params) : Bool := p.dirShift != 0

/-- `POLL_BOUND` is in 1..255 (R9). -/
def pollBoundInRange (p : Params) : Bool := p.pollBound != 0

/-- `DIR_TO_HOST < 2^(8 − DIR_SHIFT)` (R11). -/
def dirFits (p : Params) : Bool := p.dirToHost.toNat < 2 ^ (8 - p.dirShift.toNat)

/-- `KIND_CHANNEL_VALUES < 2^DIR_SHIFT` (R11). -/
def kindFits (p : Params) : Bool := p.kindChannelValues.toNat < 2 ^ p.dirShift.toNat

/-- A legal configuration (R9, R11). A model refuses any other. -/
def legal (p : Params) : Bool :=
  p.dirShiftInRange && p.pollBoundInRange && p.dirFits && p.kindFits

end Params

/-- Whether a command belongs to a core with this front end (R107). -/
def Instr.availableIn : Instr → FrontEnd → Bool
  | .burst, .byte => false
  | .pulse _ _, .byte => false
  | .byte _, .pulse => false
  | .nop, _ => true
  | .burst, .pulse => true
  | .pulse _ _, .pulse => true
  | .byte _, .byte => true
  | .hsstart, _ => true
  | .hstick, _ => true
  | .rd _, _ => true
  | .wr _ _, _ => true

end Sys2Proof
end

