-- ==== Sys2Proof/Machine/Ops.lean ====
section
/-! DEFINITION. The named operations the meanings share: the payload buffer, output events, the one exception
(IllegalCommand, R16, R321), reset (R350) and the input stream. -/

namespace Sys2Proof.Machine

/-! ## The payload buffer -/

/-- The byte listed at an index. An unlisted index holds no value: nothing has written it since reset (R57). -/
def lookupCell : List Host.Cell → Nat → Option Byte
  | [], _ => none
  | (k, v) :: rest, i => if k = i then some v else lookupCell rest i

/-- Write one byte, keeping the indices strictly rising. -/
def storeCell : List Host.Cell → Nat → Byte → List Host.Cell
  | [], i, b => [(i, b)]
  | (k, v) :: rest, i, b =>
    if i < k then (i, b) :: (k, v) :: rest
    else if i = k then (i, b) :: rest
    else (k, v) :: storeCell rest i b

/-- The canonical form of the payload buffer: indices strictly rising, each below `PAYLOAD_CAP` (R39). An unlisted
index holds no value, so no listed byte can equal it. -/
abbrev Memory.wf (m : List Host.Cell) : Prop :=
  m.Pairwise (fun a b => a.1 < b.1) ∧ ∀ c ∈ m, c.1 < Config.payloadCap

/-- `DATA[i]` (R14). A byte nothing has written is a free value (R57; log 3). -/
def State.dataByte (s : State) (i : Nat) : Byte :=
  (lookupCell s.data i).getD (Config.unwrittenByte s.resets i)

/-- `DATA[i] <- b` (R14), or none where the buffer has no byte `i` (R39). -/
def State.storeByte (s : State) (i : Nat) (b : Byte) : Option State :=
  if i < Config.payloadCap then some { s with data := storeCell s.data i b } else none

/-! ## Output events -/

/-- `emit E` (R15): append to the command's list of output events. -/
def State.emit (e : Event) (s : State) : State := { s with out := s.out ++ [e] }

/-- `ChWrite(i, v)` (R15): the event, and the external table's entry takes the whole 16-bit value (R53, R76). -/
def State.chWrite (i : Fin 4) (v : Half) (s : State) : State :=
  { s.emit (.chWrite i v) with ch := s.ch.set i v }

/-! ## The exception -/

/-- `raise IllegalCommand()` (R16, R321): set CMD_ERR and change nothing else. The core saves no state, switches no mode
and has no handler (R320, R329), so the next command simply runs: there is no return. -/
def State.raiseIllegalCommand (s : State) : State := { s with cmdErr := true }

/-! ## Reset and the input stream -/

/-- Reset between two commands (R350): every element of R32 takes its value of R57, the channel table is not touched, no
event is emitted. The parameters, the inputs still to come and the run's observation are not the core's to reset. -/
def State.portReset (s : State) : State :=
  { State.resetOf s.params with
    ch := s.ch, pending := s.pending, history := s.history, resets := s.resets + 1 }

/-- The core takes a command: its output event list begins empty (R52). -/
def State.beginCommand (s : State) (rest : List PortInput) : State :=
  { s with pending := rest, out := [] }

/-- The command's events join the run's observation (R362). -/
def State.recordEvents (s : State) : State := { s with history := s.history ++ s.out }

/-- The end of a command: record its events (R362). -/
def endCommand (r : Host.Outcome State Fault Refusal) : Host.Outcome State Fault Refusal :=
  match r with
  | .next s => .next s.recordEvents
  | .fault f => .fault f
  | .refused q => .refused q

/-- The word `w` is presented at the command port before whatever is still pending (log 2). -/
def State.presentWord (s : State) (w : CommandWord) : State :=
  { s with pending := .command w :: s.pending }

end Sys2Proof.Machine
end

