-- ==== Sys2Proof/Machine/Operands.lean ====
section
/-! DEFINITION. The operand forms: durations in units (R132), the mask of a run of ones (R133, R134), the fields of the
id byte (R230), the samples of a payload (R232), register addresses (R45). -/

namespace Sys2Proof.Machine

/-- A duration in whole units: division rounded toward zero (R132). The quotient by 0 is a free value (log 5). -/
def durationUnits (duration unit : Half) : Nat :=
  if unit = 0 then (Config.quotientByZero duration).toNat else duration.toNat / unit.toNat

/-- `trunc_8(ones(h) << c)`, exact for every `h` and `c` (R133, R134). -/
def onesMask (h c : Nat) : Byte := BitVec.ofNat 8 ((2 ^ h - 1) <<< c)

/-- `direction = ID >> DIR_SHIFT` (R37, R230). -/
def direction (p : Params) (ident : Byte) : Byte := ident >>> p.dirShift.toNat

/-- `kind = ID & ones(DIR_SHIFT)` (R37, R230). -/
def kind (p : Params) (ident : Byte) : Byte := ident &&& BitVec.ofNat 8 (2 ^ p.dirShift.toNat - 1)

/-- The id byte is recognised: to the host, channel values (R230). -/
def idRecognised (p : Params) (ident : Byte) : Bool :=
  direction p ident == p.dirToHost && kind p ident == p.kindChannelValues

/-- Sample `i` of the payload: little-endian, two's complement (R73, R232). -/
def State.sample (s : State) (i : Nat) : Int :=
  ((s.dataByte (2 * i)).setWidth 16 ||| (s.dataByte (2 * i + 1)).setWidth 16 <<< 8 : Half).toInt

/-- The channel value of a raw sample: `trunc_16(OFFSET_K − raw)`, exact and then narrowed (R233). -/
def channelValue (k : Half) (raw : Int) : Half := BitVec.ofInt 16 ((k.toNat : Int) - raw)

/-- The mapped registers (R45). -/
inductive Reg where
  | ctrl
  | unit
  | status
  | accum
  | acceptCnt
  | rejectCnt
  | hsCount
  | pkt0
  | pkt1
  | params
  | params2
  deriving DecidableEq, Repr

/-- The register at an address; none where the address is unmapped (R45). -/
def regAt (addr : Half) : Option Reg :=
  match addr.toNat with
  | 0x0000 => some .ctrl
  | 0x0001 => some .unit
  | 0x0002 => some .status
  | 0x0003 => some .accum
  | 0x0004 => some .acceptCnt
  | 0x0005 => some .rejectCnt
  | 0x0006 => some .hsCount
  | 0x0007 => some .pkt0
  | 0x0008 => some .pkt1
  | 0x0009 => some .params
  | 0x000A => some .params2
  | _ => none

end Sys2Proof.Machine
end

