-- ==== Sys2Proof/Machine/Flags.lean ====
section
/-! DEFINITION. The flags (R55): the numeric codes of the states and flags, the status word (R47), and the PRESENCE
flag under either rule (R266). CMD_ERR is set by `State.raiseIllegalCommand` alone. -/

namespace Sys2Proof.Machine

/-- The number of a framer state (R33). -/
def frameCode : FrameState → BitVec 3
  | .awaitHeader => 0
  | .awaitId => 1
  | .awaitLength => 2
  | .awaitData => 3
  | .awaitTrailer => 4
  | .awaitChecksum => 5
  | .validate => 6

/-- The number of a handshake state (R43). -/
def hsCode : HsState → BitVec 2
  | .idle => 0
  | .polling => 1
  | .success => 2
  | .failed => 3

/-- `fe` of R291: 1 for the byte front end. -/
def frontEndBit : FrontEnd → BitVec 1
  | .pulse => 0
  | .byte => 1

/-- `pr` of R291: 1 for CHANNEL_WRITE. -/
def presenceRuleBit : PresenceRule → BitVec 1
  | .accepted => 0
  | .channelWrite => 1

/-- A flag as the bit a register shows. -/
def flagBit (b : Bool) : Word := (BitVec.ofBool b).setWidth 32

/-- `STATUS` (R47, R291). -/
def State.statusWord (s : State) : Word :=
  (frameCode s.fstate).setWidth 32 ||| s.cursor.setWidth 32 <<< 4 ||| (hsCode s.hsState).setWidth 32 <<< 8
    ||| flagBit s.presence <<< 10 ||| flagBit s.cmdErr <<< 11

/-- PRESENCE is set where the instance's rule is `r` (R203, R231, R266). -/
def State.notePresence (r : PresenceRule) (s : State) : State :=
  if s.params.presenceRule = r then { s with presence := true } else s

end Sys2Proof.Machine
end

