-- ==== Sys2Proof/Machine/Handshake.lean ====
section
/-! DEFINITION. The presence handshake: HSSTART (R261) and HSTICK (R263). -/

namespace Sys2Proof.Machine

/-- What HSSTART clears and sets (R261): the session's decoder is fresh, and the poll begins. UNIT, CMD_ERR, DATA and
the channel table stay. -/
def State.openSession (s : State) : State :=
  { s with
    fstate := .awaitHeader, hdr := 0, idByte := 0, len := 0, didx := 0, ck := 0, ckidx := 0,
    acc := 0, cursor := 0, acceptCnt := 0, rejectCnt := 0, presence := false, hsCount := 0,
    hsState := .polling, rxEn := true }

/-- HSSTART (R261): open the session and ask for the query packet (R262). -/
def execHsstart (s : State) : Host.Outcome State Fault Refusal :=
  .next (s.openSession.emit (.txQuery s.params.queryPacket))

/-- The poll reports success (R264). -/
def State.pollSucceeds (s : State) : State := { s with hsState := .success }.emit (.hsResult true)

/-- The poll fails: reception ends, then the release, then the result (R265). -/
def State.pollFails (s : State) : State :=
  ({ s with hsState := .failed, rxEn := false }.emit .rxRelease).emit (.hsResult false)

/-- One wait interval of the poll (R263): count, then PRESENCE, then the bound. -/
def State.pollTick (s : State) : State :=
  let s1 := { s with hsCount := s.hsCount + 1 }
  if s1.presence then s1.pollSucceeds
  else if s1.hsCount = s1.params.pollBound then s1.pollFails
  else s1

/-- HSTICK (R263); nothing outside POLLING (R267). -/
def execHstick (s : State) : Host.Outcome State Fault Refusal :=
  .next (if s.hsState = .polling then s.pollTick else s)

end Sys2Proof.Machine
end

