-- ==== Sys2Proof/Machine/Packet.lean ====
section
/-! DEFINITION. The CRC (R200), the packet format of the wire (R71), and the form of the query packet (R262). -/

namespace Sys2Proof.Machine

/-- One bit of the CRC: shift left, and subtract the polynomial 0x1021 when a 1 leaves (R200). -/
def crcBit (r : Half) : Half := if r.getLsbD 15 then (r <<< 1) ^^^ 0x1021 else r <<< 1

/-- One byte of the CRC: it enters at the top, then eight bits (R200). -/
def crcByte (r : Half) (x : Byte) : Half :=
  crcBit (crcBit (crcBit (crcBit (crcBit (crcBit (crcBit (crcBit (r ^^^ (x.setWidth 16 <<< 8)))))))))

/-- `CRC16` (R200): from 0xFFFF, no final XOR (R201). -/
def crc16 (bytes : List Byte) : Half := bytes.foldl crcByte 0xFFFF

/-- The low byte of a checksum, sent first (R72). -/
def lowByte (c : Half) : Byte := c.extractLsb' 0 8

/-- The high byte of a checksum, sent second (R72). -/
def highByte (c : Half) : Byte := c.extractLsb' 8 8

/-- A packet on the wire (R71), without its checksum. -/
def packetBody (marker ident : Byte) (payload : List Byte) : List Byte :=
  marker :: ident :: BitVec.ofNat 8 payload.length :: payload

/-- A whole packet on the wire (R71): the checksum's low byte first (R72). -/
def wirePacket (marker ident : Byte) (payload : List Byte) : List Byte :=
  let c := crc16 (packetBody marker ident payload)
  packetBody marker ident payload ++ [lowByte c, highByte c]

/-- A byte string is a packet of the wire format: marker, id, length, as many payload bytes, and its CRC (R71, R262). -/
def isWirePacket (marker : Byte) (p : List Byte) : Bool :=
  match p with
  | m :: ident :: l :: rest =>
    m == marker && rest.length == l.toNat + 2 && p == wirePacket marker ident (rest.take l.toNat)
  | _ => false

/-- What R262 requires of `QUERY_PACKET`. The core emits the string as it is; this form is the configuration's duty
(log 9). -/
def queryPacketWellFormed (p : Params) : Bool := isWirePacket p.headerMarker p.queryPacket

end Sys2Proof.Machine
end

