-- ==== Sys2Proof/Machine/Validator.lean ====
section
/-! DEFINITION. The packet validator (R203) and the channel dispatcher (R231). -/

namespace Sys2Proof.Machine

/-- The bytes the CRC covers: HDR, ID, LEN, DATA[0..LEN−1], in wire order (R202). -/
def State.coveredBytes (s : State) : List Byte :=
  s.hdr :: s.idByte :: s.len :: (List.range s.len.toNat).map s.dataByte

/-- The verdict, a pure function of the packet (R203, R208). -/
def State.crcMatches (s : State) : Bool := crc16 s.coveredBytes == s.ck

/-- The packet is acted upon: recognised, with at least four samples (R230, R235). -/
def State.actsOn (s : State) : Bool := idRecognised s.params s.idByte && 8 ≤ s.len.toNat

/-- The channel value of sample `i` (R231). -/
def State.axis (s : State) (i : Nat) : Half := channelValue s.params.offsetK (s.sample i)

/-- The four channel writes, in index order (R231, R236). -/
def State.writeChannels (s : State) : State :=
  (((s.chWrite 0 (s.axis 0)).chWrite 1 (s.axis 1)).chWrite 2 (s.axis 2)).chWrite 3 (s.axis 3)

/-- `Dispatch()` (R231). -/
def dispatch (s : State) : State :=
  if s.actsOn then s.writeChannels.notePresence .channelWrite else s

/-- The accept branch of `Validate()` before the dispatcher (R203). -/
def State.accept (s : State) : State :=
  { s with valid := true, acceptCnt := s.acceptCnt + 1 }.notePresence .accepted

/-- The reject branch of `Validate()` (R203). -/
def State.reject (s : State) : State := { s with rejectCnt := s.rejectCnt + 1 }

/-- The end of `Validate()`, whatever the outcome (R203, R205). -/
def State.endValidation (s : State) : State := { s with valid := false, fstate := .awaitHeader }

/-- `Validate()` (R203). -/
def validate (s : State) : State :=
  (if s.crcMatches then dispatch s.accept else s.reject).endValidation

end Sys2Proof.Machine
end

