-- ==== Sys2Proof/Machine/Framer.lean ====
section
/-! DEFINITION. The byte framer (R161 to R168) and the command BYTE (R160). -/

namespace Sys2Proof.Machine

/-- Arm `AwaitHeader` (R162). -/
def frameHeader (b : Byte) (s : State) : State :=
  if b = s.params.headerMarker then { s with hdr := b, fstate := .awaitId } else s

/-- Arm `AwaitId` (R163). -/
def frameId (b : Byte) (s : State) : State := { s with idByte := b, fstate := .awaitLength }

/-- Clear the checksum accumulator and its byte count, and wait for the checksum (R164, R166). -/
def State.startChecksum (s : State) : State := { s with ck := 0, ckidx := 0, fstate := .awaitChecksum }

/-- Arm `AwaitLength` (R164). -/
def frameLength (b : Byte) (s : State) : State :=
  let s1 := { s with len := b, didx := 0 }
  if b = 0 then s1.startChecksum else { s1 with fstate := .awaitData }

/-- Arm `AwaitData` (R165): a fault where DIDX indexes no payload byte (R39; log 7). -/
def frameData (b : Byte) (s : State) : Host.Outcome State Fault Refusal :=
  match s.storeByte s.didx.toNat b with
  | none => .fault (.payloadIndex s.didx.toNat)
  | some s1 =>
    let s2 := { s1 with didx := s1.didx + 1 }
    .next (if s2.didx = s2.len then { s2 with fstate := .awaitTrailer } else s2)

/-- Arm `AwaitChecksum` (R167). -/
def frameChecksum (b : Byte) (s : State) : State :=
  let s1 := { s with ck := s.ck ||| b.setWidth 16 <<< (8 * s.ckidx.toNat) }
  if s.ckidx = 0 then { s1 with ckidx := 1 } else validate { s1 with ckidx := 0, fstate := .validate }

/-- Arm `AwaitTrailer` (R166): the same byte goes on as the first checksum byte. -/
def frameTrailer (b : Byte) (s : State) : State := frameChecksum b s.startChecksum

/-- `FrameStep(b)` (R161). `Validate` is never held between commands (R168; log 6). -/
def frameStep (b : Byte) (s : State) : Host.Outcome State Fault Refusal :=
  match s.fstate with
  | .awaitHeader => .next (frameHeader b s)
  | .awaitId => .next (frameId b s)
  | .awaitLength => .next (frameLength b s)
  | .awaitData => frameData b s
  | .awaitTrailer => .next (frameTrailer b s)
  | .awaitChecksum => .next (frameChecksum b s)
  | .validate => .refused .heldValidate

/-- BYTE (R160), with the front-end check of R107 and the receive gate. -/
def execByte (b : Byte) (s : State) : Host.Outcome State Fault Refusal :=
  match s.params.frontEnd with
  | .pulse => .next s.raiseIllegalCommand
  | .byte => if s.rxEn then frameStep b s else .next s

end Sys2Proof.Machine
end

