-- ==== Sys2Proof/Machine/Pulse.lean ====
section
/-! DEFINITION. The pulse-to-bit recoverer: BURST (R130) and PULSE (R131). -/

namespace Sys2Proof.Machine

/-- Clear the accumulator and the cursor (R130, R135). -/
def State.clearAccumulator (s : State) : State := { s with acc := 0, cursor := 0 }

/-- The recoverer takes one sample (R131): the zeros, the ones at the cursor, one test of the cursor at the end, and at
most one byte to the framer (R135). -/
def recoverPulse (low high : Half) (s : State) : Host.Outcome State Fault Refusal :=
  let c := s.cursor.toNat + durationUnits low s.unit
  let h := durationUnits high s.unit
  let bits := s.acc ||| onesMask h c
  if 8 ≤ c + h then frameStep bits (s.clearAccumulator.emit (.byteOut bits))
  else .next { s with acc := bits, cursor := BitVec.ofNat 3 (c + h) }

/-- BURST (R130), with the front-end check of R107. It runs whatever RX_EN is. -/
def execBurst (s : State) : Host.Outcome State Fault Refusal :=
  match s.params.frontEnd with
  | .byte => .next s.raiseIllegalCommand
  | .pulse => .next s.clearAccumulator

/-- PULSE (R131), with the front-end check of R107 and the receive gate of R137. -/
def execPulse (low high : Half) (s : State) : Host.Outcome State Fault Refusal :=
  match s.params.frontEnd with
  | .byte => .next s.raiseIllegalCommand
  | .pulse => if s.rxEn then recoverPulse low high s else .next s

end Sys2Proof.Machine
end

