-- ==== Sys2Proof/Machine/Register.lean ====
section
/-! DEFINITION. The register space (R45 to R51): NOP (R290), RD (R291), WR (R292). -/

namespace Sys2Proof.Machine

/-- `PKT0` (R49). -/
def State.pkt0Word (s : State) : Word :=
  s.hdr.setWidth 32 ||| s.idByte.setWidth 32 <<< 8 ||| s.len.setWidth 32 <<< 16 ||| s.didx.setWidth 32 <<< 24

/-- `PKT1` (R49). -/
def State.pkt1Word (s : State) : Word := s.ck.setWidth 32 ||| s.ckidx.setWidth 32 <<< 16

/-- `PARAMS` (R50, R291). -/
def paramsWord (p : Params) : Word :=
  p.headerMarker.setWidth 32 ||| p.dirShift.setWidth 32 <<< 8 ||| (frontEndBit p.frontEnd).setWidth 32 <<< 12
    ||| (presenceRuleBit p.presenceRule).setWidth 32 <<< 13 ||| p.pollBound.setWidth 32 <<< 16

/-- `PARAMS2` (R50, R291). -/
def params2Word (p : Params) : Word :=
  p.offsetK.setWidth 32 ||| p.dirToHost.setWidth 32 <<< 16 ||| p.kindChannelValues.setWidth 32 <<< 24

/-- The 32-bit value of a mapped register (R45, R291). -/
def State.readReg (s : State) : Reg → Word
  | .ctrl => flagBit s.rxEn
  | .unit => s.unit.setWidth 32
  | .status => s.statusWord
  | .accum => s.acc.setWidth 32
  | .acceptCnt => s.acceptCnt
  | .rejectCnt => s.rejectCnt
  | .hsCount => s.hsCount.setWidth 32
  | .pkt0 => s.pkt0Word
  | .pkt1 => s.pkt1Word
  | .params => paramsWord s.params
  | .params2 => params2Word s.params

/-- Write a mapped register (R292): CTRL takes bit 0 (R295), UNIT any value but 0 (R296), the others are read-only
(R294). -/
def State.writeReg (s : State) (data : Half) : Reg → State
  | .ctrl => { s with rxEn := data.getLsbD 0 }
  | .unit => if data = 0 then s else { s with unit := data }
  | .status => s.raiseIllegalCommand
  | .accum => s.raiseIllegalCommand
  | .acceptCnt => s.raiseIllegalCommand
  | .rejectCnt => s.raiseIllegalCommand
  | .hsCount => s.raiseIllegalCommand
  | .pkt0 => s.raiseIllegalCommand
  | .pkt1 => s.raiseIllegalCommand
  | .params => s.raiseIllegalCommand
  | .params2 => s.raiseIllegalCommand

/-- NOP (R290). -/
def execNop (s : State) : Host.Outcome State Fault Refusal := .next s

/-- RD (R291): one RSP, of 0 and with CMD_ERR set where the address is unmapped (R293). -/
def execRd (addr : Half) (s : State) : Host.Outcome State Fault Refusal :=
  match regAt addr with
  | some r => .next (s.emit (.rsp (s.readReg r)))
  | none => .next (s.raiseIllegalCommand.emit (.rsp 0))

/-- WR (R292), with IllegalCommand on a read-only or unmapped address (R294). -/
def execWr (addr data : Half) (s : State) : Host.Outcome State Fault Refusal :=
  match regAt addr with
  | some r => .next (s.writeReg data r)
  | none => .next s.raiseIllegalCommand

end Sys2Proof.Machine
end

