-- ==== Sys2Proof/Machine/Dispatch.lean ====
section
/-! DEFINITION. One arm per command (R104). -/

namespace Sys2Proof.Machine

def exec (i : Instr) (s : State) : Host.Outcome State Fault Refusal :=
  match i with
  | .nop => Sys2Proof.Machine.execNop s
  | .burst => Sys2Proof.Machine.execBurst s
  | .pulse low high => Sys2Proof.Machine.execPulse low high s
  | .byte b => Sys2Proof.Machine.execByte b s
  | .hsstart => Sys2Proof.Machine.execHsstart s
  | .hstick => Sys2Proof.Machine.execHstick s
  | .rd addr => Sys2Proof.Machine.execRd addr s
  | .wr addr data => Sys2Proof.Machine.execWr addr data s

end Sys2Proof.Machine
end

