-- ==== Sys2Proof/Machine/Cycle.lean ====
section
/-! DEFINITION. What one step does with one input: a command word runs to completion (R100), a reset is taken (R350). -/

namespace Sys2Proof.Machine

/-- Run one command word (R108): a word that decodes to no command raises IllegalCommand (R105, R106). -/
def runWord (w : CommandWord) (s : State) : Host.Outcome State Fault Refusal :=
  match decode w with
  | .ok i => exec i s
  | .error _ => .next s.raiseIllegalCommand

/-- The core takes the word `w` and runs it to completion (R81, R100); `rest` stays pending. -/
def takeCommand (w : CommandWord) (rest : List PortInput) (s : State) : Host.Outcome State Fault Refusal :=
  endCommand (runWord w (s.beginCommand rest))

/-- The core takes a reset (R350); `rest` stays pending (R352). -/
def takeReset (rest : List PortInput) (s : State) : Host.Outcome State Fault Refusal :=
  .next ({ s with pending := rest }.portReset)

end Sys2Proof.Machine
end

