-- ==== Sys2Proof/Machine/Step.lean ====
section
/-! DEFINITION. One step of the core. -/

namespace Sys2Proof.Machine

/-- One step: an illegal configuration is refused (R11); a reset is taken (R350, R352); a command runs to completion
(R100); with nothing pending the core is idle and holds all its state (R334). -/
def step (s : State) : Host.Outcome State Fault Refusal :=
  if s.params.legal then
    match s.pending with
    | [] => .next s
    | .reset :: rest => takeReset rest s
    | .command w :: rest => takeCommand w rest s
  else .refused .illegalConfiguration

/-- The host presents the word whose bits are `w` (log 2): the next step takes and runs it. -/
def State.withFetchWord (s : State) (nbits w : Nat) : State := s.presentWord (tableWord nbits w)

end Sys2Proof.Machine
end

