-- ==== Sys2Proof/Machine/Assembler.lean ====
section
/-! DEFINITION. The inverse transform of the recoverer (R139), the pseudo-instructions (R112) and the assembler's text
form (R111). None of it is hardware: it says which command words a line stands for. The text conventions the spec leaves
open are in log 19. -/

namespace Sys2Proof.Machine

/-! ## The inverse transform -/

/-- How many bits of `v` from bit `i` on are `b`, up to bit 7; `n` bounds the count. -/
def runLength (v : Byte) (b : Bool) : (n i : Nat) → Nat
  | 0, _ => 0
  | n + 1, i => if i < 8 && v.getLsbD i == b then runLength v b n (i + 1) + 1 else 0

/-- The pairs from bit `i` on: a run of zeros, then a run of ones (R139); `n` bounds the number of pairs. -/
def pairsFrom (v : Byte) (u : Nat) : (n i : Nat) → List (Nat × Nat)
  | 0, _ => []
  | n + 1, i =>
    if i < 8 then
      let z := runLength v false 8 i
      let o := runLength v true 8 (i + z)
      (z * u, o * u) :: pairsFrom v u n (i + z + o)
    else []

/-- `Encode(v, u)` (R139). -/
def encodePairs (v : Byte) (u : Nat) : List (Nat × Nat) := pairsFrom v u 8 0

/-- `PBYTE v` at unit `u` (R112). -/
def pulseCommands (v : Byte) (u : Nat) : List Instr :=
  (encodePairs v u).map fun p => .pulse (BitVec.ofNat 16 p.1) (BitVec.ofNat 16 p.2)

/-! ## Lines -/

/-- One line of assembly, its operands read as numbers (R111, R112). -/
inductive AsmLine where
  | blank
  | nop
  | burst
  | pulse (low high : Nat)
  | byte (b : Nat)
  | hsstart
  | hstick
  | rd (addr : Nat)
  | wr (addr value : Nat)
  | rxon
  | rxoff
  | setunit (u : Nat)
  | wait (n : Nat)
  | send (bs : List Nat)
  | pbyte (v : Nat)
  | psend (vs : List Nat)
  | unit (u : Nat)
  deriving DecidableEq, Repr

/-- Why a line does not assemble (R111). -/
inductive AsmError where
  | operandOutOfRange
  | unknownMnemonic
  | badOperands
  deriving DecidableEq, Repr

/-- A 16-bit operand, 0..65535 (R111). -/
def halfOperand (n : Nat) : Except AsmError Half :=
  if n < 65536 then .ok (BitVec.ofNat 16 n) else .error .operandOutOfRange

/-- A byte operand, 0..255 (R111). -/
def byteOperand (n : Nat) : Except AsmError Byte :=
  if n < 256 then .ok (BitVec.ofNat 8 n) else .error .operandOutOfRange

/-- A list of byte operands. -/
def byteOperands : List Nat → Except AsmError (List Byte)
  | [] => .ok []
  | n :: ns =>
    match byteOperand n, byteOperands ns with
    | .ok b, .ok bs => .ok (b :: bs)
    | .error e, _ => .error e
    | .ok _, .error e => .error e

/-- The pulses of a list of bytes at the current unit, which R139 requires to be in 1..8191. -/
def pulseBytes (u : Nat) (bs : List Byte) : Except AsmError (List Instr) :=
  if 1 ≤ u ∧ u ≤ 8191 then .ok (bs.flatMap fun b => pulseCommands b u) else .error .operandOutOfRange

/-- The commands a line stands for, at the assembler's current unit `u` (R111, R112). -/
def expandLine (u : Nat) (l : AsmLine) : Except AsmError (List Instr) :=
  match l with
  | .blank => .ok []
  | .nop => .ok [.nop]
  | .burst => .ok [.burst]
  | .pulse low high => do return [.pulse (← halfOperand low) (← halfOperand high)]
  | .byte b => do return [.byte (← byteOperand b)]
  | .hsstart => .ok [.hsstart]
  | .hstick => .ok [.hstick]
  | .rd addr => do return [.rd (← halfOperand addr)]
  | .wr addr value => do return [.wr (← halfOperand addr) (← halfOperand value)]
  | .rxon => .ok [.wr 0x0000 1]
  | .rxoff => .ok [.wr 0x0000 0]
  | .setunit v => do return [.wr 0x0001 (← halfOperand v)]
  | .wait n => .ok (List.replicate n .hstick)
  | .send bs => do return (← byteOperands bs).map .byte
  | .pbyte v => do pulseBytes u [← byteOperand v]
  | .psend vs => do pulseBytes u (← byteOperands vs)
  | .unit v => do let _ ← halfOperand v; return []

/-- The current unit after a line: only `.unit` changes it (R112). -/
def unitAfter (u : Nat) : AsmLine → Nat
  | .unit v => v
  | .blank => u
  | .nop => u
  | .burst => u
  | .pulse _ _ => u
  | .byte _ => u
  | .hsstart => u
  | .hstick => u
  | .rd _ => u
  | .wr _ _ => u
  | .rxon => u
  | .rxoff => u
  | .setunit _ => u
  | .wait _ => u
  | .send _ => u
  | .pbyte _ => u
  | .psend _ => u

/-- The commands of a program from the current unit `u` on. -/
def expandLines (u : Nat) : List AsmLine → Except AsmError (List Instr)
  | [] => .ok []
  | l :: ls =>
    match expandLine u l, expandLines (unitAfter u l) ls with
    | .ok is, .ok js => .ok (is ++ js)
    | .error e, _ => .error e
    | .ok _, .error e => .error e

/-! ## Text -/

/-- End the token read so far (kept in reverse) before `rest`. -/
def endToken (cur : List Char) (rest : List (List Char)) : List (List Char) :=
  if cur.isEmpty then rest else cur.reverse :: rest

/-- The tokens of a line: words, and commas of their own; a comment starts with `;` (R111). -/
def tokens : List Char → List Char → List (List Char)
  | [], cur => endToken cur []
  | c :: cs, cur =>
    if c = ';' then endToken cur []
    else if c = ' ' ∨ c = '\t' ∨ c = '\r' then endToken cur (tokens cs [])
    else if c = ',' then endToken cur ([','] :: tokens cs [])
    else tokens cs (c :: cur)

/-- The value of a digit in a base up to 16. -/
def digitValue (base : Nat) (c : Char) : Option Nat :=
  let n := c.toNat
  let v := if 48 ≤ n ∧ n ≤ 57 then some (n - 48)
    else if 65 ≤ n ∧ n ≤ 70 then some (n - 55)
    else if 97 ≤ n ∧ n ≤ 102 then some (n - 87)
    else none
  v.filter (· < base)

/-- The number of a digit string, most significant digit first. -/
def digits (base : Nat) : List Char → Nat → Option Nat
  | [], acc => some acc
  | c :: cs, acc => (digitValue base c).bind fun d => digits base cs (acc * base + d)

/-- A number: decimal or `0x` hex (R111). -/
def number : List Char → Option Nat
  | [] => none
  | '0' :: 'x' :: c :: cs => digits 16 (c :: cs) 0
  | c :: cs => digits 10 (c :: cs) 0

/-- The register names (R45, R111). -/
def registerNames : List (List Char × Nat) :=
  [("CTRL".toList, 0), ("UNIT".toList, 1), ("STATUS".toList, 2), ("ACCUM".toList, 3), ("ACCEPT_CNT".toList, 4),
   ("REJECT_CNT".toList, 5), ("HS_COUNT".toList, 6), ("PKT0".toList, 7), ("PKT1".toList, 8), ("PARAMS".toList, 9),
   ("PARAMS2".toList, 10)]

/-- A register operand: a name or an address (R111). -/
def registerOperand (t : List Char) : Option Nat :=
  match registerNames.lookup t with
  | some a => some a
  | none => number t

/-- All tokens as numbers. -/
def numbers : List (List Char) → Option (List Nat)
  | [] => some []
  | t :: ts => (number t).bind fun n => (numbers ts).map fun ns => n :: ns

/-- A line with no operand. -/
def noOperand (args : List (List Char)) (l : AsmLine) : Except AsmError AsmLine :=
  if args.isEmpty then .ok l else .error .badOperands

/-- A line with one number. -/
def oneNumber (args : List (List Char)) (f : Nat → AsmLine) : Except AsmError AsmLine :=
  match args with
  | [t] => match number t with
    | some n => .ok (f n)
    | none => .error .badOperands
  | _ => .error .badOperands

/-- A line with two operands and a comma between them, the first read by `first`. -/
def twoOperands (first : List Char → Option Nat) (args : List (List Char)) (f : Nat → Nat → AsmLine) :
    Except AsmError AsmLine :=
  match args with
  | [t, [','], r] => match first t, number r with
    | some a, some b => .ok (f a b)
    | _, _ => .error .badOperands
  | _ => .error .badOperands

/-- A line with a list of at least one number. -/
def someNumbers (args : List (List Char)) (f : List Nat → AsmLine) : Except AsmError AsmLine :=
  match args, numbers args with
  | _ :: _, some ns => .ok (f ns)
  | _, _ => .error .badOperands

/-- The line whose mnemonic is `m` (R111, R112). -/
def parseMnemonic (m : List Char) (args : List (List Char)) : Except AsmError AsmLine :=
  if m = "NOP".toList then noOperand args .nop
  else if m = "BURST".toList then noOperand args .burst
  else if m = "PULSE".toList then twoOperands number args .pulse
  else if m = "BYTE".toList then oneNumber args .byte
  else if m = "HSSTART".toList then noOperand args .hsstart
  else if m = "HSTICK".toList then noOperand args .hstick
  else if m = "RD".toList then
    match args with
    | [t] => match registerOperand t with
      | some a => .ok (.rd a)
      | none => .error .badOperands
    | _ => .error .badOperands
  else if m = "WR".toList then twoOperands registerOperand args .wr
  else if m = "RXON".toList then noOperand args .rxon
  else if m = "RXOFF".toList then noOperand args .rxoff
  else if m = "SETUNIT".toList then oneNumber args .setunit
  else if m = "WAIT".toList then oneNumber args .wait
  else if m = "SEND".toList then someNumbers args .send
  else if m = "PBYTE".toList then oneNumber args .pbyte
  else if m = "PSEND".toList then someNumbers args .psend
  else if m = ".unit".toList then oneNumber args .unit
  else .error .unknownMnemonic

/-- One line of text (R111). -/
def parseLine (text : List Char) : Except AsmError AsmLine :=
  match tokens text [] with
  | [] => .ok .blank
  | m :: args => parseMnemonic m args

/-- The lines of a text. -/
def splitLines : List Char → List Char → List (List Char)
  | [], cur => [cur.reverse]
  | c :: cs, cur => if c = '\n' then cur.reverse :: splitLines cs [] else splitLines cs (c :: cur)

/-- Parse every line. -/
def parseLines : List (List Char) → Except AsmError (List AsmLine)
  | [] => .ok []
  | t :: ts =>
    match parseLine t, parseLines ts with
    | .ok l, .ok ls => .ok (l :: ls)
    | .error e, _ => .error e
    | .ok _, .error e => .error e

/-- The assembler: the command words of a program text (R111, R112). The current unit starts at 43. -/
def assemble (text : List Char) : Except AsmError (List CommandWord) :=
  match parseLines (splitLines text []) with
  | .error e => .error e
  | .ok ls =>
    match expandLines Config.unitReset.toNat ls with
    | .error e => .error e
    | .ok is => .ok (is.map encode)

end Sys2Proof.Machine
end

