-- ==== Sys2Proof/Safety.lean ====
section
/-! DEFINITION. The terms statements use: the invariant of R56, a run of commands (R362), what the channel table holds
after a list of events (R53) and what an unsynchronised reader may see (R77). -/

namespace Sys2Proof.Machine

/-- The framer is past the length byte of a packet: `DATA[0..DIDX−1]` are bytes of the current packet (R40). -/
def FrameState.inPayload : FrameState → Bool
  | .awaitHeader => false
  | .awaitId => false
  | .awaitLength => false
  | .awaitData => true
  | .awaitTrailer => true
  | .awaitChecksum => true
  | .validate => false

/-- What holds between any two commands. The first ten clauses after `unitLegal` are R56's (`CURSOR ∈ 0..7` is its
width); the others are R9 and R11 (`legal`), R46 (`unitLegal`), R39 and R40 (`checksumIndex`, `written`) and the
buffer's canonical form (`dataForm`). -/
structure State.Inv (s : State) : Prop where
  legal : s.params.legal = true
  unitLegal : s.unit ≠ 0
  notValidating : s.fstate ≠ .validate
  accBelowCursor : s.acc.toNat < 2 ^ s.cursor.toNat
  validClear : s.valid = false
  headerHeld : s.fstate ≠ .awaitHeader → s.hdr = s.params.headerMarker
  dataIndex : s.fstate = .awaitData → s.didx.toNat < s.len.toNat
  trailerIndex : s.fstate = .awaitTrailer → s.didx = s.len ∧ 1 ≤ s.len.toNat
  checksumFresh : s.fstate = .awaitChecksum → s.ckidx = 0 → s.ck = 0
  pollingCount : s.hsState = .polling → s.hsCount.toNat < s.params.pollBound.toNat
  failedCount : s.hsState = .failed → s.hsCount = s.params.pollBound
  checksumIndex : s.fstate = .awaitChecksum → s.didx = s.len
  written : s.fstate.inPayload = true → ∀ i < s.didx.toNat, (lookupCell s.data i).isSome = true
  dataForm : Memory.wf s.data

/-- Run a list of commands, one after the other (R81, R362). `out` collects their events in order. -/
def runCommands : List Instr → State → Host.Outcome State Fault Refusal
  | [], s => .next s
  | i :: is, s =>
    match exec i s with
    | .next t => runCommands is t
    | .fault f => .fault f
    | .refused r => .refused r

/-- What one event does to the channel table (R53). -/
def applyEvent (ch : Vector Half 4) : Event → Vector Half 4
  | .chWrite i v => ch.set i v
  | .txQuery _ => ch
  | .rxRelease => ch
  | .hsResult _ => ch
  | .rsp _ => ch
  | .byteOut _ => ch

/-- The channel table after a list of events (R53). -/
def applyEvents (ch : Vector Half 4) (es : List Event) : Vector Half 4 := es.foldl applyEvent ch

/-- The tables a reader that is not synchronised with the core may see while the events are delivered: any number of the
writes done, each whole (R76, R77). -/
def readerViews (ch : Vector Half 4) (es : List Event) : List (Vector Half 4) :=
  (List.range (es.length + 1)).map fun k => applyEvents ch (es.take k)

/-- The event is a channel write. -/
def Event.isChWrite : Event → Bool
  | .chWrite _ _ => true
  | .txQuery _ => false
  | .rxRelease => false
  | .hsResult _ => false
  | .rsp _ => false
  | .byteOut _ => false

end Sys2Proof.Machine
end

