-- ==== Sys2Proof/Certificates/Slice0/Obligations.lean ====
section
/-! DEFINITION. The statements for the provers. Each docstring names the rule it formalises. -/

open Sys2Proof Sys2Proof.Machine

namespace Sys2Proof.Machine

/-- A step that takes the command word `w` raises IllegalCommand (R321): CMD_ERR is set, the event list of the command
is empty, the word is taken, and nothing else changes. -/
def RaisesIllegal (w : CommandWord) : Prop :=
  ∀ (s : State) (rest : List PortInput), s.params.legal = true → s.pending = .command w :: rest →
    step s = .next { s with pending := rest, out := [], cmdErr := true }

/-- The framer, given the byte `b`, ends in `t`; and so does BYTE on a core that receives bytes (R160, R161). -/
def FramesTo (b : Byte) (s t : State) : Prop :=
  frameStep b s = .next t ∧
    (s.params.frontEnd = .byte → s.rxEn = true → exec (.byte b) s = .next t)

/-- Bit `j` of the byte that a run of `h` ones from bit `c` leaves in an accumulator `a` (R133). -/
def onesPlaced (a : Byte) (c h j : Nat) : Bool := a.getLsbD j || (decide (c ≤ j) && decide (j < c + h))

/-- The 16-bit table value of sample `i` of a payload (R73, R233). -/
def tableValue (k : Half) (payload : Nat → Byte) (i : Nat) : Half :=
  BitVec.ofInt 16 ((k.toNat : Int) -
    (BitVec.ofNat 16 ((payload (2 * i)).toNat + 256 * (payload (2 * i + 1)).toNat)).toInt)

/-- The four channel writes of a payload, in index order (R77, R231). -/
def quartet (k : Half) (payload : Nat → Byte) : List Event :=
  [.chWrite 0 (tableValue k payload 0), .chWrite 1 (tableValue k payload 1),
   .chWrite 2 (tableValue k payload 2), .chWrite 3 (tableValue k payload 3)]

/-- The id byte names a channel-values packet to the host (R230): its high bits are DIR_TO_HOST, its low DIR_SHIFT bits
KIND_CHANNEL_VALUES. -/
def Recognised (p : Params) (ident : Byte) : Prop :=
  ident.toNat / 2 ^ p.dirShift.toNat = p.dirToHost.toNat ∧
    ident.toNat % 2 ^ p.dirShift.toNat = p.kindChannelValues.toNat

/-- A byte string with bit `j` of byte `k` flipped. -/
def flipBit (bytes : List Byte) (k j : Nat) : List Byte := bytes.modify k (· ^^^ BitVec.twoPow 8 j)

/-- The buffer `d` holds what `s` holds for the payload bytes of the packet in progress. -/
def AgreesOnPacket (s : State) (d : List Host.Cell) : Prop :=
  s.fstate.inPayload = true → ∀ k < s.didx.toNat, lookupCell d k = lookupCell s.data k

/-- One bit of a CRC computed serially: the data bit is compared with the bit that leaves the register. -/
def crcSerialBit (r : Half) (bit : Bool) : Half :=
  if r.getLsbD 15 = bit then r <<< 1 else (r <<< 1) ^^^ 0x1021

/-- The bits of a byte, most significant first (R74). -/
def bitsMsbFirst (x : Byte) : List Bool := (List.range 8).map fun j => x.getLsbD (7 - j)

end Sys2Proof.Machine

/-! ## Encoding -/

/-- R104, R106: a word decodes to a command exactly when it is that command's word, so every operand bit is read and
no other word is accepted. -/
def Obligations.DecodeAcceptsExactlyEncodings : Prop :=
  ∀ (w : CommandWord) (i : Instr), decode w = .ok i ↔ w = encode i

/-- R104: words written out from the encoding table decode to the commands they stand for. -/
def Obligations.SpecWordsDecode : Prop :=
  decode 0x0000000000 = .ok .nop ∧ decode 0x0100000000 = .ok .burst ∧
  decode 0x0200560081 = .ok (.pulse 86 129) ∧ decode 0x0300000055 = .ok (.byte 0x55) ∧
  decode 0x0400000000 = .ok .hsstart ∧ decode 0x0500000000 = .ok .hstick ∧
  decode 0x06000A0000 = .ok (.rd 0x000A) ∧ decode 0x0700010028 = .ok (.wr 0x0001 40)

/-- R105, R106: a word with a reserved opcode, or with a non-zero field that R102 marks "must be 0", raises
IllegalCommand and changes nothing else. -/
def Obligations.MalformedWordsRaiseIllegal : Prop :=
  ∀ w : CommandWord,
    (8 ≤ (w.extractLsb' 32 8).toNat ∨
     ((w.extractLsb' 32 8).toNat ∈ [0, 1, 4, 5] ∧ w.extractLsb' 0 32 ≠ 0) ∨
     ((w.extractLsb' 32 8).toNat = 3 ∧ w.extractLsb' 8 24 ≠ 0) ∨
     ((w.extractLsb' 32 8).toNat = 6 ∧ w.extractLsb' 0 16 ≠ 0)) →
    RaisesIllegal w

/-- R107: a command of the other front end raises IllegalCommand. -/
def Obligations.FrontEndMismatchRaisesIllegal : Prop :=
  ∀ s : State,
    (s.params.frontEnd = .byte →
      exec .burst s = .next { s with cmdErr := true } ∧
      ∀ low high, exec (.pulse low high) s = .next { s with cmdErr := true }) ∧
    (s.params.frontEnd = .pulse → ∀ b, exec (.byte b) s = .next { s with cmdErr := true })

/-- R111: every word the assembler produces decodes, so it never has a reserved opcode or a non-zero must-be-zero
field. -/
def Obligations.AssembledWordsDecode : Prop :=
  ∀ (text : List Char) (ws : List CommandWord), assemble text = .ok ws →
    ∀ w ∈ ws, ∃ i, decode w = .ok i

/-! ## The step -/

/-- R81, R100: when the word at the command port decodes, a step runs that command: on the state with the word taken and
an empty event list, and then records the command's events. -/
def Obligations.StepRunsDecodedCommand : Prop :=
  ∀ (s : State) (w : CommandWord) (rest : List PortInput) (i : Instr),
    s.params.legal = true → s.pending = .command w :: rest → decode w = .ok i →
      (∀ t, exec i { s with pending := rest, out := [] } = .next t →
        step s = .next { t with history := t.history ++ t.out }) ∧
      (∀ f, exec i { s with pending := rest, out := [] } = .fault f → step s = .fault f) ∧
      (∀ r, exec i { s with pending := rest, out := [] } = .refused r → step s = .refused r)

/-- R334: with no command to take, the core is idle and holds all its state (log 12: a step then changes nothing). -/
def Obligations.IdleStepHoldsState : Prop :=
  ∀ s : State, s.params.legal = true → s.pending = [] → step s = .next s

/-- R350: a reset gives every element its reset value, leaves the channel table alone and emits nothing. The last line
is the model's own (log 10): the inputs still to come and the run's observation are kept. -/
def Obligations.ResetInputReinitialises : Prop :=
  ∀ (s : State) (rest : List PortInput), s.params.legal = true → s.pending = .reset :: rest →
    ∃ t, step s = .next t ∧
      t.fstate = .awaitHeader ∧ t.cursor = 0 ∧ t.acc = 0 ∧ t.hdr = 0 ∧ t.idByte = 0 ∧ t.len = 0 ∧ t.didx = 0 ∧
      t.ck = 0 ∧ t.ckidx = 0 ∧ t.valid = false ∧ t.acceptCnt = 0 ∧ t.rejectCnt = 0 ∧ t.rxEn = false ∧
      t.hsState = .idle ∧ t.hsCount = 0 ∧ t.presence = false ∧ t.cmdErr = false ∧ t.unit = 43 ∧
      t.ch = s.ch ∧ t.out = [] ∧ t.params = s.params ∧
      t.pending = rest ∧ t.history = s.history

/-- R57: the values after reset, for every configuration and for the host's start state. -/
def Obligations.ResetLeavesSpecifiedValues : Prop :=
  ∀ s : State, (s = State.reset ∨ ∃ p, s = State.resetOf p) →
    s.fstate = .awaitHeader ∧ s.cursor = 0 ∧ s.acc = 0 ∧ s.hdr = 0 ∧ s.idByte = 0 ∧ s.len = 0 ∧ s.didx = 0 ∧
    s.ck = 0 ∧ s.ckidx = 0 ∧ s.valid = false ∧ s.acceptCnt = 0 ∧ s.rejectCnt = 0 ∧ s.rxEn = false ∧
    s.hsState = .idle ∧ s.hsCount = 0 ∧ s.presence = false ∧ s.cmdErr = false ∧ s.unit = 43 ∧ s.out = []

/-- R11: a configuration that cannot hold the recognised id fields recognises no packet and is refused. -/
def Obligations.UnfitConfigurationRefused : Prop :=
  ∀ s : State,
    (2 ^ (8 - s.params.dirShift.toNat) ≤ s.params.dirToHost.toNat ∨
     2 ^ s.params.dirShift.toNat ≤ s.params.kindChannelValues.toNat) →
    step s = .refused .illegalConfiguration ∧ ∀ ident : Byte, ¬ Recognised s.params ident

/-! ## NOP, RD, WR -/

/-- R290: NOP does nothing; a NOP word with a non-zero operand is illegal. -/
def Obligations.NopHasNoEffect : Prop :=
  encode .nop = 0x0000000000 ∧ decode 0x0000000000 = .ok .nop ∧
  (∀ s : State, exec .nop s = .next s) ∧
  (∀ w : CommandWord, w.extractLsb' 32 8 = 0 → w ≠ 0 → RaisesIllegal w)

/-- R291: RD of a mapped register completes with one RSP of its value and changes nothing else. -/
def Obligations.RdReturnsRegister : Prop :=
  ∀ s : State,
    exec (.rd 0x0000) s = .next { s with out := s.out ++ [.rsp (if s.rxEn then 1 else 0)] } ∧
    exec (.rd 0x0001) s = .next { s with out := s.out ++ [.rsp (s.unit.setWidth 32)] } ∧
    exec (.rd 0x0002) s = .next { s with out := s.out ++ [.rsp s.statusWord] } ∧
    exec (.rd 0x0003) s = .next { s with out := s.out ++ [.rsp (s.acc.setWidth 32)] } ∧
    exec (.rd 0x0004) s = .next { s with out := s.out ++ [.rsp s.acceptCnt] } ∧
    exec (.rd 0x0005) s = .next { s with out := s.out ++ [.rsp s.rejectCnt] } ∧
    exec (.rd 0x0006) s = .next { s with out := s.out ++ [.rsp (s.hsCount.setWidth 32)] } ∧
    exec (.rd 0x0007) s = .next { s with out := s.out ++ [.rsp s.pkt0Word] } ∧
    exec (.rd 0x0008) s = .next { s with out := s.out ++ [.rsp s.pkt1Word] } ∧
    exec (.rd 0x0009) s = .next { s with out := s.out ++ [.rsp (paramsWord s.params)] } ∧
    exec (.rd 0x000A) s = .next { s with out := s.out ++ [.rsp (params2Word s.params)] }

/-- R47: RD STATUS answers a word with the fields of STATUS in their places and its reserved bits 0, and STATUS is
read-only. -/
def Obligations.StatusWordLayout : Prop :=
  ∀ s : State,
    (∀ d, exec (.wr 0x0002 d) s = .next { s with cmdErr := true }) ∧
    ∃ w : Word, exec (.rd 0x0002) s = .next { s with out := s.out ++ [.rsp w] } ∧
      (w.extractLsb' 0 3).toNat =
        (match s.fstate with
         | .awaitHeader => 0 | .awaitId => 1 | .awaitLength => 2 | .awaitData => 3
         | .awaitTrailer => 4 | .awaitChecksum => 5 | .validate => 6) ∧
      w.extractLsb' 3 1 = 0 ∧
      w.extractLsb' 4 3 = s.cursor ∧
      w.extractLsb' 7 1 = 0 ∧
      (w.extractLsb' 8 2).toNat =
        (match s.hsState with | .idle => 0 | .polling => 1 | .success => 2 | .failed => 3) ∧
      w.getLsbD 10 = s.presence ∧
      w.getLsbD 11 = s.cmdErr ∧
      w.extractLsb' 12 20 = 0

/-- R49: where the fields of PKT0 and PKT1 stand (R45: the reserved bits of PKT1 read 0), and both are read-only. -/
def Obligations.PacketRegisterLayout : Prop :=
  ∀ s : State,
    (∀ d, exec (.wr 0x0007 d) s = .next { s with cmdErr := true } ∧
      exec (.wr 0x0008 d) s = .next { s with cmdErr := true }) ∧
    (∃ w : Word, exec (.rd 0x0007) s = .next { s with out := s.out ++ [.rsp w] } ∧
      w.extractLsb' 0 8 = s.hdr ∧ w.extractLsb' 8 8 = s.idByte ∧
      w.extractLsb' 16 8 = s.len ∧ w.extractLsb' 24 8 = s.didx) ∧
    (∃ w : Word, exec (.rd 0x0008) s = .next { s with out := s.out ++ [.rsp w] } ∧
      w.extractLsb' 0 16 = s.ck ∧ w.extractLsb' 16 1 = s.ckidx ∧ w.extractLsb' 17 15 = 0)

/-- R50: where the parameters stand in PARAMS and PARAMS2 (reserved bits read 0), both are read-only, and no read
depends on QUERY_PACKET. -/
def Obligations.ParameterRegisterLayout : Prop :=
  ∀ s : State,
    (∀ d, exec (.wr 0x0009 d) s = .next { s with cmdErr := true } ∧
      exec (.wr 0x000A d) s = .next { s with cmdErr := true }) ∧
    (∃ w : Word, exec (.rd 0x0009) s = .next { s with out := s.out ++ [.rsp w] } ∧
      w.extractLsb' 0 8 = s.params.headerMarker ∧
      w.extractLsb' 8 3 = s.params.dirShift ∧
      w.getLsbD 11 = false ∧
      w.getLsbD 12 = decide (s.params.frontEnd = .byte) ∧
      w.getLsbD 13 = decide (s.params.presenceRule = .channelWrite) ∧
      w.extractLsb' 14 2 = 0 ∧
      w.extractLsb' 16 8 = s.params.pollBound ∧
      w.extractLsb' 24 8 = 0) ∧
    (∃ w : Word, exec (.rd 0x000A) s = .next { s with out := s.out ++ [.rsp w] } ∧
      w.extractLsb' 0 16 = s.params.offsetK ∧
      w.extractLsb' 16 8 = s.params.dirToHost ∧
      w.extractLsb' 24 8 = s.params.kindChannelValues) ∧
    (∀ (addr : Half) (q : List Byte), ∃ t, exec (.rd addr) s = .next t ∧
      exec (.rd addr) { s with params := { s.params with queryPacket := q } } =
        .next { t with params := { s.params with queryPacket := q } })

/-- R293: RD of an unmapped address sets CMD_ERR and still answers RSP(0); a malformed RD word answers nothing. -/
def Obligations.RdUnmappedAnswersZero : Prop :=
  (∀ (s : State) (addr : Half), 0x000B ≤ addr.toNat →
    exec (.rd addr) s = .next { s with cmdErr := true, out := s.out ++ [.rsp 0] }) ∧
  (∀ w : CommandWord, w.extractLsb' 32 8 = 6 → w.extractLsb' 0 16 ≠ 0 → RaisesIllegal w)

/-- R295: WR CTRL sets RX_EN to bit 0 of the data and changes nothing else. -/
def Obligations.WrCtrlSetsReceiveEnable : Prop :=
  ∀ (s : State) (data : Half),
    exec (.wr 0x0000 data) s = .next { s with rxEn := decide (data.toNat % 2 = 1) }

/-- R296 and R46: WR UNIT stores a value of 1..65535 and ignores 0 without an error. -/
def Obligations.WrUnitStoresLegalValues : Prop :=
  ∀ s : State, exec (.wr 0x0001 0) s = .next s ∧
    ∀ data : Half, data ≠ 0 → exec (.wr 0x0001 data) s = .next { s with unit := data }

/-- R294: WR to a read-only or unmapped register raises IllegalCommand and changes nothing else. -/
def Obligations.WrReadOnlyRaisesIllegal : Prop :=
  ∀ (s : State) (addr data : Half), 0x0002 ≤ addr.toNat →
    exec (.wr addr data) s = .next { s with cmdErr := true }

/-! ## The recoverer -/

/-- R130: BURST clears ACC and CURSOR and nothing else, whatever RX_EN is. -/
def Obligations.BurstClearsAccumulator : Prop :=
  ∀ s : State, s.params.frontEnd = .pulse → exec .burst s = .next { s with acc := 0, cursor := 0 }

/-- R137 and R160: with RX_EN = 0, PULSE and BYTE are dropped. -/
def Obligations.DisabledInputIsDropped : Prop :=
  ∀ s : State, s.rxEn = false →
    (s.params.frontEnd = .pulse → ∀ low high, exec (.pulse low high) s = .next s) ∧
    (s.params.frontEnd = .byte → ∀ b, exec (.byte b) s = .next s)

/-- R131 to R134: a PULSE that leaves the cursor below 8 places its ones from the advanced cursor, moves the cursor, and
changes nothing else. -/
def Obligations.PulseBelowEightAccumulates : Prop :=
  ∀ (s : State) (low high : Half), s.params.frontEnd = .pulse → s.rxEn = true → s.unit ≠ 0 →
    s.cursor.toNat + low.toNat / s.unit.toNat + high.toNat / s.unit.toNat < 8 →
    ∃ (a : Byte) (c : BitVec 3),
      exec (.pulse low high) s = .next { s with acc := a, cursor := c } ∧
      c.toNat = s.cursor.toNat + low.toNat / s.unit.toNat + high.toNat / s.unit.toNat ∧
      ∀ j < 8, a.getLsbD j =
        onesPlaced s.acc (s.cursor.toNat + low.toNat / s.unit.toNat) (high.toNat / s.unit.toNat) j

/-- R131, R134, R135: a PULSE that takes the cursor to 8 or more emits one byte, the low eight bits, clears the
accumulator and the cursor, and runs one framer step on that byte. It completes where the framer does: FSTATE is not
Validate, and a payload byte has a place in the buffer. -/
def Obligations.PulseReachingEightEmitsOneByte : Prop :=
  ∀ (s : State) (low high : Half), s.params.frontEnd = .pulse → s.rxEn = true → s.unit ≠ 0 →
    8 ≤ s.cursor.toNat + low.toNat / s.unit.toNat + high.toNat / s.unit.toNat →
    s.fstate ≠ .validate → (s.fstate = .awaitData → s.didx.toNat < 255) →
    ∃ (b : Byte) (t : State) (writes : List Event),
      (∀ j < 8, b.getLsbD j =
        onesPlaced s.acc (s.cursor.toNat + low.toNat / s.unit.toNat) (high.toNat / s.unit.toNat) j) ∧
      exec (.pulse low high) s = .next t ∧
      frameStep b { s with acc := 0, cursor := 0, out := s.out ++ [.byteOut b] } = .next t ∧
      t.acc = 0 ∧ t.cursor = 0 ∧
      t.out = s.out ++ .byteOut b :: writes ∧ (∀ e ∈ writes, e.isChWrite = true)

/-- R139: the inverse transform round-trips. From an empty accumulator, pulses whose durations fall in the units of
`Encode(v, u)` emit nothing but `v`, once, at the end, and give `v` to the framer. -/
def Obligations.InverseTransformRoundTrips : Prop :=
  ∀ (s : State) (v : Byte) (u : Half) (pulses : List (Half × Half)),
    s.params.frontEnd = .pulse → s.rxEn = true → s.cursor = 0 → s.acc = 0 → s.unit = u →
    1 ≤ u.toNat → u.toNat ≤ 8191 →
    List.Forall₂ (fun (p : Half × Half) (q : Nat × Nat) =>
      (q.1 ≤ p.1.toNat ∧ p.1.toNat < q.1 + u.toNat) ∧ (q.2 ≤ p.2.toNat ∧ p.2.toNat < q.2 + u.toNat))
      pulses (encodePairs v u.toNat) →
    (∀ n < pulses.length, ∃ c a, runCommands ((pulses.take n).map fun p => .pulse p.1 p.2) s =
      .next { s with cursor := c, acc := a }) ∧
    runCommands (pulses.map fun p => .pulse p.1 p.2) s =
      frameStep v { s with out := s.out ++ [.byteOut v] }

/-! ## The framer -/

/-- R162: in AwaitHeader the marker is stored and starts a packet; any other byte changes nothing. -/
def Obligations.HeaderSearch : Prop :=
  ∀ (s : State) (b : Byte), s.fstate = .awaitHeader →
    (b = s.params.headerMarker → FramesTo b s { s with hdr := b, fstate := .awaitId }) ∧
    (b ≠ s.params.headerMarker → FramesTo b s s)

/-- R163: any byte is stored as the id. -/
def Obligations.IdByteStored : Prop :=
  ∀ (s : State) (b : Byte), s.fstate = .awaitId →
    FramesTo b s { s with idByte := b, fstate := .awaitLength }

/-- R164: any byte is stored as the length; a length of 0 goes straight to the checksum. -/
def Obligations.LengthByteStored : Prop :=
  ∀ (s : State) (b : Byte), s.fstate = .awaitLength →
    (b = 0 → FramesTo b s { s with len := 0, didx := 0, ck := 0, ckidx := 0, fstate := .awaitChecksum }) ∧
    (b ≠ 0 → FramesTo b s { s with len := b, didx := 0, fstate := .awaitData })

/-- R165: a payload byte goes to DATA[DIDX], no other byte of DATA changes, DIDX counts it, and the byte that makes
DIDX = LEN ends the payload. -/
def Obligations.PayloadByteAppended : Prop :=
  ∀ (s : State) (b : Byte), s.fstate = .awaitData → s.didx.toNat < 255 →
    ∃ d : List Host.Cell,
      FramesTo b s { s with
        data := d, didx := s.didx + 1,
        fstate := if s.didx + 1 = s.len then .awaitTrailer else .awaitData } ∧
      (∀ t : State, t.data = d → t.resets = s.resets →
        t.dataByte s.didx.toNat = b ∧ ∀ a, a ≠ s.didx.toNat → t.dataByte a = s.dataByte a)

/-- R166: the byte that arrives in AwaitTrailer is the low checksum byte. -/
def Obligations.TrailerByteIsFirstChecksumByte : Prop :=
  ∀ (s : State) (b : Byte), s.fstate = .awaitTrailer →
    FramesTo b s { s with ck := b.setWidth 16, ckidx := 1, fstate := .awaitChecksum }

/-- R167: the first checksum byte goes to the low byte of CK. -/
def Obligations.FirstChecksumByteStored : Prop :=
  ∀ (s : State) (b : Byte), s.fstate = .awaitChecksum → s.ckidx = 0 →
    FramesTo b s { s with ck := s.ck ||| b.setWidth 16, ckidx := 1 }

/-- The model's own stops (log 6, log 7), both in states that R56 rules out: a payload byte with no place in the buffer is
a fault (R39), and a state that holds Validate between commands is refused (R33). -/
def Obligations.FramerStopsOutsideTheInvariant : Prop :=
  ∀ (s : State) (b : Byte),
    (s.fstate = .awaitData → s.didx = 255 → frameStep b s = .fault (.payloadIndex 255)) ∧
    (s.fstate = .validate → frameStep b s = .refused .heldValidate)

/-- R169: in AwaitHeader, bytes without a marker are dropped, however many. -/
def Obligations.NoiseIsDropped : Prop :=
  ∀ (s : State) (noise : List Byte), s.params.frontEnd = .byte → s.rxEn = true → s.fstate = .awaitHeader →
    (∀ b ∈ noise, b ≠ s.params.headerMarker) → runCommands (noise.map .byte) s = .next s

/-! ## Validation and dispatch -/

/-- R200, R201: the CRC of the catalogued check string and of the spec's vectors. -/
def Obligations.CrcCheckValues : Prop :=
  crc16 [] = 0xFFFF ∧
  crc16 [0x31, 0x32, 0x33, 0x34, 0x35, 0x36, 0x37, 0x38, 0x39] = 0x29B1 ∧
  crc16 [0x55, 0x1C, 0x00] = 0x3FBC ∧
  crc16 [0x55, 0x2C, 0x01, 0xAA] = 0x9988

/-- R74, R200: taking whole bytes at the top of the register is the serial CRC over the bits, each byte most significant
bit first. -/
def Obligations.CrcIsSerialMsbFirst : Prop :=
  ∀ bytes : List Byte, crc16 bytes = (bytes.flatMap bitsMsbFirst).foldl crcSerialBit 0xFFFF

/-- R207: changing any one byte changes the CRC. -/
def Obligations.CrcDetectsOneChangedByte : Prop :=
  ∀ (before after : List Byte) (x y : Byte), x ≠ y →
    crc16 (before ++ x :: after) ≠ crc16 (before ++ y :: after)

/-- R203, R324: the second checksum byte of a packet whose CRC differs rejects it: REJECT_CNT counts it, the framer
searches for a header again, and nothing else happens. -/
def Obligations.MismatchRejectsPacket : Prop :=
  ∀ (s : State) (b : Byte), s.fstate = .awaitChecksum → s.ckidx = 1 →
    crc16 (s.hdr :: s.idByte :: s.len :: (List.range s.len.toNat).map s.dataByte) ≠
      s.ck ||| b.setWidth 16 <<< 8 →
    FramesTo b s { s with
      ck := s.ck ||| b.setWidth 16 <<< 8, ckidx := 0, rejectCnt := s.rejectCnt + 1, valid := false,
      fstate := .awaitHeader }

/-- R203, R234, R235: an accepted packet that is not recognised, or is shorter than four samples, is only counted; it
is presence under the rule ACCEPTED. -/
def Obligations.UnrecognisedPacketOnlyCounted : Prop :=
  ∀ (s : State) (b : Byte), s.fstate = .awaitChecksum → s.ckidx = 1 →
    crc16 (s.hdr :: s.idByte :: s.len :: (List.range s.len.toNat).map s.dataByte) =
      s.ck ||| b.setWidth 16 <<< 8 →
    (¬ Recognised s.params s.idByte ∨ s.len.toNat < 8) →
    FramesTo b s { s with
      ck := s.ck ||| b.setWidth 16 <<< 8, ckidx := 0, acceptCnt := s.acceptCnt + 1, valid := false,
      presence := s.presence || decide (s.params.presenceRule = .accepted), fstate := .awaitHeader }

/-- R203, R231 to R233, R236, R237: an accepted, recognised packet of at least eight payload bytes writes the four
channel entries, in index order, and is presence under either rule. -/
def Obligations.RecognisedPacketWritesChannels : Prop :=
  ∀ (s : State) (b : Byte), s.fstate = .awaitChecksum → s.ckidx = 1 →
    crc16 (s.hdr :: s.idByte :: s.len :: (List.range s.len.toNat).map s.dataByte) =
      s.ck ||| b.setWidth 16 <<< 8 →
    Recognised s.params s.idByte → 8 ≤ s.len.toNat →
    FramesTo b s { s with
      ck := s.ck ||| b.setWidth 16 <<< 8, ckidx := 0, acceptCnt := s.acceptCnt + 1, valid := false,
      presence := true, fstate := .awaitHeader,
      out := s.out ++ quartet s.params.offsetK s.dataByte,
      ch := #v[tableValue s.params.offsetK s.dataByte 0, tableValue s.params.offsetK s.dataByte 1,
               tableValue s.params.offsetK s.dataByte 2, tableValue s.params.offsetK s.dataByte 3] }

/-- R206: no command writes a channel but one that completes a packet whose CRC is its checksum, and it is counted as
accepted. -/
def Obligations.ChannelWriteNeedsCrcMatch : Prop :=
  ∀ (i : Instr) (s t : State), exec i s = .next t →
    ∃ new, t.out = s.out ++ new ∧
      ((∃ e ∈ new, e.isChWrite = true) →
        s.fstate = .awaitChecksum ∧ s.ckidx = 1 ∧ t.acceptCnt = s.acceptCnt + 1 ∧
        crc16 (s.hdr :: s.idByte :: s.len :: (List.range s.len.toNat).map s.dataByte) = t.ck)

/-- R53: the channel table changes by the CH_WRITE events of the command and by nothing else. -/
def Obligations.TableFollowsEvents : Prop :=
  ∀ (i : Instr) (s t : State), exec i s = .next t →
    ∃ new, t.out = s.out ++ new ∧ t.ch = applyEvents s.ch new

/-- R76, R77: a reader that is not synchronised sees, for each entry, the value from before the command or the one from
after it. -/
def Obligations.ReaderSeesOldOrNewEntry : Prop :=
  ∀ (i : Instr) (s t : State), exec i s = .next t →
    ∃ new, t.out = s.out ++ new ∧
      ∀ view ∈ readerViews s.ch new, ∀ k : Fin 4, view[k] = s.ch[k] ∨ view[k] = t.ch[k]

/-- R238: dispatching the same packet twice leaves the channel table as dispatching it once does. -/
def Obligations.DispatchIsIdempotentOnTable : Prop :=
  ∀ s : State, (dispatch (dispatch s)).ch = (dispatch s).ch

/-- R71, R172, R202, R203, R231: a packet of the wire format, sent byte by byte, is in progress until its last byte and
is then accepted, whatever its length; its payload is in the buffer, and a recognised one of at least eight payload
bytes, and no other, writes the four entries. -/
def Obligations.WirePacketIsAccepted : Prop :=
  ∀ (s : State) (ident : Byte) (payload : List Byte), s.params.frontEnd = .byte → s.rxEn = true →
    s.fstate = .awaitHeader → payload.length ≤ 255 →
    (wirePacket s.params.headerMarker ident payload).length = payload.length + 5 ∧
    (∀ n, 0 < n → n < payload.length + 5 →
      ∃ t, runCommands (((wirePacket s.params.headerMarker ident payload).take n).map .byte) s = .next t ∧
        t.fstate ≠ .awaitHeader ∧ t.out = s.out ∧ t.acceptCnt = s.acceptCnt ∧ t.rejectCnt = s.rejectCnt) ∧
    ∃ t, runCommands ((wirePacket s.params.headerMarker ident payload).map .byte) s = .next t ∧
      t.fstate = .awaitHeader ∧ t.acceptCnt = s.acceptCnt + 1 ∧ t.rejectCnt = s.rejectCnt ∧
      t.hdr = s.params.headerMarker ∧ t.idByte = ident ∧ t.len.toNat = payload.length ∧
      (∀ k (h : k < payload.length), t.dataByte k = payload[k]) ∧
      (Recognised s.params ident → 8 ≤ payload.length →
        t.out = s.out ++ quartet s.params.offsetK (fun k => payload.getD k 0) ∧ t.presence = true) ∧
      (¬ Recognised s.params ident ∨ payload.length < 8 → t.out = s.out ∧ t.ch = s.ch)

/-- R207: a packet with any one bit flipped in its id, payload or checksum is rejected: REJECT_CNT counts it, and no
channel is written. -/
def Obligations.SingleBitFlipIsRejected : Prop :=
  ∀ (s : State) (ident : Byte) (payload : List Byte) (k j : Nat),
    s.params.frontEnd = .byte → s.rxEn = true → s.fstate = .awaitHeader → payload.length ≤ 255 →
    (k = 1 ∨ (3 ≤ k ∧ k < payload.length + 5)) → j < 8 →
    ∃ t, runCommands ((flipBit (wirePacket s.params.headerMarker ident payload) k j).map .byte) s = .next t ∧
      t.fstate = .awaitHeader ∧ t.rejectCnt = s.rejectCnt + 1 ∧ t.acceptCnt = s.acceptCnt ∧
      t.out = s.out ∧ t.ch = s.ch ∧ t.presence = s.presence

/-! ## The handshake -/

/-- R261, R262: HSSTART opens a fresh session, enables reception, starts the poll and asks for the query packet. UNIT,
CMD_ERR, DATA and the channel table stay. -/
def Obligations.HsstartOpensFreshSession : Prop :=
  ∀ s : State, exec .hsstart s = .next { s with
    fstate := .awaitHeader, hdr := 0, idByte := 0, len := 0, didx := 0, ck := 0, ckidx := 0, acc := 0, cursor := 0,
    acceptCnt := 0, rejectCnt := 0, presence := false, hsCount := 0, hsState := .polling, rxEn := true,
    out := s.out ++ [.txQuery s.params.queryPacket] }

/-- R263 to R265: an HSTICK in POLLING counts, then reports success where a packet was seen, else failure at the bound,
with the release before the result. -/
def Obligations.HstickPolls : Prop :=
  ∀ s : State, s.hsState = .polling →
    (s.presence = true → exec .hstick s = .next { s with
      hsCount := s.hsCount + 1, hsState := .success, out := s.out ++ [.hsResult true] }) ∧
    (s.presence = false → s.hsCount + 1 = s.params.pollBound → exec .hstick s = .next { s with
      hsCount := s.hsCount + 1, hsState := .failed, rxEn := false, out := s.out ++ [.rxRelease, .hsResult false] }) ∧
    (s.presence = false → s.hsCount + 1 ≠ s.params.pollBound → exec .hstick s = .next { s with
      hsCount := s.hsCount + 1 })

/-- R267: HSTICK outside POLLING changes nothing and emits nothing. -/
def Obligations.HstickOutsidePollingIsInert : Prop :=
  ∀ s : State, s.hsState ≠ .polling → exec .hstick s = .next s

/-- R260: no command but HSSTART and HSTICK moves HS_STATE, and HSTICK only as R260 lists. -/
def Obligations.HandshakeTransitions : Prop :=
  ∀ (i : Instr) (s t : State), exec i s = .next t →
    t.hsState = s.hsState ∨
    (i = .hsstart ∧ t.hsState = .polling) ∨
    (i = .hstick ∧ s.hsState = .polling ∧ s.presence = true ∧ t.hsState = .success) ∨
    (i = .hstick ∧ s.hsState = .polling ∧ s.presence = false ∧ t.hsCount = s.params.pollBound ∧
      t.hsState = .failed)

/-- R265: the receive resource is released by a failing HSTICK alone, once, before the result. -/
def Obligations.ReleaseOnlyOnFailedPoll : Prop :=
  ∀ (i : Instr) (s t : State), exec i s = .next t →
    ∃ new, t.out = s.out ++ new ∧
      (.rxRelease ∈ new → i = .hstick ∧ s.hsState = .polling ∧ t.hsState = .failed ∧ t.rxEn = false ∧
        new = [.rxRelease, .hsResult false])

/-- R268: whatever else arrives in the session, POLL_BOUND ticks after HSSTART end the poll. -/
def Obligations.HandshakeIsBounded : Prop :=
  ∀ (s : State) (cmds : List Instr), s.Inv → (∀ i ∈ cmds, i ≠ .hsstart) →
    s.params.pollBound.toNat ≤ cmds.count .hstick →
    ∃ t, runCommands (.hsstart :: cmds) s = .next t ∧ (t.hsState = .success ∨ t.hsState = .failed)

/-! ## Whole-machine rules -/

/-- R54: CMD_ERR is sticky: only a reset clears it. It changes nothing of what another command does, but for what RD
STATUS shows. -/
def Obligations.CmdErrIsSticky : Prop :=
  (∀ s t : State, s.cmdErr = true → step s = .next t → t.cmdErr = true ∨ ∃ rest, s.pending = .reset :: rest) ∧
  (∀ (i : Instr) (s t : State) (c : Bool), i ≠ .rd 0x0002 → exec i s = .next t →
    ∃ c', exec i { s with cmdErr := c } = .next { t with cmdErr := c' })

/-- R204: apart from HSSTART, the counters change only where a packet's last checksum byte is taken, by one and one of
them; and nothing but RD of a counter depends on their values. -/
def Obligations.CountersOnlyCountValidations : Prop :=
  (∀ (i : Instr) (s t : State), i ≠ .hsstart → exec i s = .next t →
    (t.acceptCnt = s.acceptCnt ∧ t.rejectCnt = s.rejectCnt) ∨
    (s.fstate = .awaitChecksum ∧ s.ckidx = 1 ∧ t.fstate = .awaitHeader ∧
      ((t.acceptCnt = s.acceptCnt + 1 ∧ t.rejectCnt = s.rejectCnt) ∨
       (t.acceptCnt = s.acceptCnt ∧ t.rejectCnt = s.rejectCnt + 1)))) ∧
  (∀ (i : Instr) (s t : State) (a r : Word), i ≠ .rd 0x0004 → i ≠ .rd 0x0005 → exec i s = .next t →
    ∃ a' r', exec i { s with acceptCnt := a, rejectCnt := r } = .next { t with acceptCnt := a', rejectCnt := r' })

/-- R9: no step changes a synthesis parameter. -/
def Obligations.ParametersNeverChange : Prop :=
  ∀ s t : State, step s = .next t → t.params = s.params

/-- Frame of BURST, HSTICK, NOP, RD and WR: the framer, the packet, the payload buffer, the counters, PRESENCE and the
channel table stay; the accumulator stays but for BURST, RX_EN but for HSTICK and WR, UNIT but for WR, the handshake
but for HSTICK; the model's own fields stay. -/
def Obligations.RegisterAndTimerCommandsFrame : Prop :=
  ∀ (i : Instr) (s t : State), exec i s = .next t →
    (i = .nop ∨ i = .burst ∨ i = .hstick ∨ (∃ a, i = .rd a) ∨ (∃ a d, i = .wr a d)) →
    t.fstate = s.fstate ∧ t.hdr = s.hdr ∧ t.idByte = s.idByte ∧ t.len = s.len ∧ t.didx = s.didx ∧
    (∀ k, t.dataByte k = s.dataByte k) ∧ t.data = s.data ∧ t.ck = s.ck ∧ t.ckidx = s.ckidx ∧ t.valid = s.valid ∧
    t.acceptCnt = s.acceptCnt ∧ t.rejectCnt = s.rejectCnt ∧ t.presence = s.presence ∧ t.ch = s.ch ∧
    (i ≠ .burst → t.acc = s.acc ∧ t.cursor = s.cursor) ∧
    (i ≠ .hstick → t.hsState = s.hsState ∧ t.hsCount = s.hsCount) ∧
    (i ≠ .hstick → (∀ d, i ≠ .wr 0x0000 d) → t.rxEn = s.rxEn) ∧
    ((∀ d, i ≠ .wr 0x0001 d) → t.unit = s.unit) ∧
    t.pending = s.pending ∧ t.history = s.history ∧ t.resets = s.resets

/-- Frame of PULSE and BYTE: RX_EN, UNIT, the handshake's state and count stay, CMD_ERR stays where the command is the
front end's own, and every byte of DATA stays but the one at DIDX when a payload byte is taken. -/
def Obligations.ReceiveCommandsFrame : Prop :=
  ∀ (i : Instr) (s t : State), exec i s = .next t →
    ((∃ low high, i = .pulse low high) ∨ (∃ b, i = .byte b)) →
    t.rxEn = s.rxEn ∧ t.unit = s.unit ∧ t.hsState = s.hsState ∧ t.hsCount = s.hsCount ∧
    (i.availableIn s.params.frontEnd = true → t.cmdErr = s.cmdErr) ∧
    (∀ k, ¬ (s.fstate = .awaitData ∧ k = s.didx.toNat) → t.dataByte k = s.dataByte k) ∧
    ((∃ b, i = .byte b) → t.acc = s.acc ∧ t.cursor = s.cursor) ∧
    t.pending = s.pending ∧ t.history = s.history ∧ t.resets = s.resets

/-- R39: no rule reads a byte of DATA that the packet in progress has not written. Two states that differ only in such
bytes run every command alike and differ only in such bytes afterwards. -/
def Obligations.StalePayloadNeverMatters : Prop :=
  ∀ (i : Instr) (s t : State) (d : List Host.Cell) (n : Nat), s.Inv → AgreesOnPacket s d →
    exec i s = .next t →
    ∃ d', exec i { s with data := d, resets := n } = .next { t with data := d', resets := n } ∧
      AgreesOnPacket t d'

/-- R70 and log 3: every step keeps the canonical form of the payload buffer, from any state that has it. -/
def Obligations.StepKeepsPayloadForm : Prop :=
  ∀ s t : State, Memory.wf s.data → step s = .next t → Memory.wf t.data

/-- R56: the invariant holds after reset, for every legal configuration. -/
def Obligations.ResetMeetsInvariant : Prop :=
  State.reset.Inv ∧ ∀ p : Params, p.legal = true → (State.resetOf p).Inv

/-- R56: every step keeps the invariant. -/
def Obligations.StepKeepsInvariant : Prop :=
  ∀ s t : State, s.Inv → step s = .next t → t.Inv

/-- R320, R362: from a state that meets the invariant every step completes; the core never traps and never stops. -/
def Obligations.StepNeverStops : Prop :=
  ∀ s : State, s.Inv → ∃ t, step s = .next t
end

