-- ==== Sys2Proof/Laws/Crc.lean ====
section
/-! SUPPORT. The CRC: every step can be undone, so two different registers never meet on the same bytes. -/

namespace Sys2Proof.Machine

/-- Undo one bit of the CRC: bit 0 tells whether the polynomial was taken. -/
def crcUnbit (r : Half) : Half := if r.getLsbD 0 then ((r ^^^ 0x1021) >>> 1) ||| 0x8000 else r >>> 1

theorem crcUnbit_crcBit (r : Half) : crcUnbit (crcBit r) = r := by
  by_cases h : r.getLsbD 15 = true
  · have h0 : (crcBit r).getLsbD 0 = true := by simp [crcBit, h]
    rw [crcUnbit, if_pos h0]
    simp only [crcBit, h, if_true, BitVec.xor_assoc, BitVec.xor_self, BitVec.xor_zero]
    apply BitVec.eq_of_getLsbD_eq
    intro i hi
    interval_cases i <;> simp_all
  · have h0 : ¬ (crcBit r).getLsbD 0 = true := by rw [crcBit, if_neg h]; simp
    rw [crcUnbit, if_neg h0, crcBit, if_neg h]
    apply BitVec.eq_of_getLsbD_eq
    intro i hi
    interval_cases i <;> simp_all

theorem crcBit_injective : Function.Injective crcBit := Function.LeftInverse.injective crcUnbit_crcBit

theorem crcByte_eq_iff (r r' : Half) (x y : Byte) :
    crcByte r x = crcByte r' y ↔ r ^^^ (x.setWidth 16 <<< 8) = r' ^^^ (y.setWidth 16 <<< 8) := by
  simp only [crcByte, crcBit_injective.eq_iff]

/-- On one byte, different registers give different registers. -/
theorem crcByte_injective_register {r r' : Half} {x : Byte} (h : crcByte r x = crcByte r' x) : r = r' := by
  rw [crcByte_eq_iff] at h
  exact (BitVec.xor_left_inj _).mp h

/-- From one register, different bytes give different registers. -/
theorem crcByte_injective_byte {r : Half} {x y : Byte} (h : crcByte r x = crcByte r y) : x = y := by
  rw [crcByte_eq_iff, BitVec.xor_right_inj] at h
  apply BitVec.eq_of_getLsbD_eq
  intro i hi
  have := congrArg (fun v => v.getLsbD (i + 8)) h
  have h16 : i + 8 < 16 := by omega
  have hi16 : i < 16 := by omega
  simpa [hi, h16, hi16] using this

/-- Different registers stay different over any bytes. -/
theorem foldl_crcByte_injective (l : List Byte) {r r' : Half} (h : l.foldl crcByte r = l.foldl crcByte r') : r = r' := by
  induction l generalizing r r' with
  | nil => exact h
  | cons x l ih => exact crcByte_injective_register (ih h)

theorem crc16_append (a b : List Byte) : crc16 (a ++ b) = b.foldl crcByte (crc16 a) := by
  simp [crc16]

/-- The two checksum bytes make the checksum again (R72). -/
theorem lowByte_or_highByte (c : Half) : (lowByte c).setWidth 16 ||| (highByte c).setWidth 16 <<< 8 = c := by
  apply BitVec.eq_of_getLsbD_eq
  intro i hi
  interval_cases i <;> simp [lowByte, highByte]

end Sys2Proof.Machine
end

