-- ==== Sys2Proof/Laws/Decode.lean ====
section
/-! SUPPORT. The fields of a packed word, and what the decoder answers by opcode. -/

namespace Sys2Proof

@[simp] theorem opField_packWord (op : Byte) (a b : Half) : opField (packWord op a b) = op := by
  ext i hi
  simp only [opField, packWord, BitVec.getElem_extractLsb', BitVec.getLsbD_append]
  have h1 : ¬ 32 + i < 16 := by omega
  have h2 : ¬ 32 + i - 16 < 16 := by omega
  have h3 : 32 + i - 16 - 16 = i := by omega
  simp [h1, h2, h3, hi]

@[simp] theorem aField_packWord (op : Byte) (a b : Half) : aField (packWord op a b) = a := by
  ext i hi
  simp only [aField, packWord, BitVec.getElem_extractLsb', BitVec.getLsbD_append]
  have h1 : ¬ 16 + i < 16 := by omega
  have h3 : 16 + i - 16 = i := by omega
  simp [h1, h3, hi]

@[simp] theorem bField_packWord (op : Byte) (a b : Half) : bField (packWord op a b) = b := by
  ext i hi
  simp only [bField, packWord, BitVec.getElem_extractLsb', BitVec.getLsbD_append]
  simp [hi]

/-- A word is its three fields (R101). -/
theorem packWord_fields (w : CommandWord) : packWord (opField w) (aField w) (bField w) = w := by
  apply BitVec.eq_of_getLsbD_eq
  intro i hi
  simp only [packWord, opField, aField, bField, BitVec.getLsbD_append, BitVec.getLsbD_extractLsb']
  by_cases h1 : i < 16
  · simp [h1]
  · by_cases h2 : i < 32
    · have h3 : i - 16 < 16 := by omega
      have h4 : 16 + (i - 16) = i := by omega
      simp [h1, h3, h4]
    · have h3 : ¬ i - 16 < 16 := by omega
      have h4 : i - 16 - 16 < 8 := by omega
      have h5 : 32 + (i - 16 - 16) = i := by omega
      simp [h1, h3, h4, h5]

/-- B is its two bytes. -/
theorem bField_eq_append (w : CommandWord) : bField w = (bHigh w ++ bLow w : BitVec (8 + 8)) := by
  apply BitVec.eq_of_getLsbD_eq
  intro i hi
  simp only [bField, bHigh, bLow, BitVec.getLsbD_append, BitVec.getLsbD_extractLsb']
  by_cases h1 : i < 8
  · have : i < 16 := by omega
    simp [h1, this]
  · have h2 : i - 8 < 8 := by omega
    have h3 : 8 + (i - 8) = i := by omega
    have : i < 16 := by omega
    simp [h1, h2, h3, this]

theorem requireZero_eq_ok {z : Bool} {i j : Instr} : requireZero z i = .ok j ↔ z = true ∧ i = j := by
  cases z <;> simp [requireZero]

/-- The opcode decides the command (R104). -/
theorem decode_opcode {w : CommandWord} {i : Instr} (h : decode w = .ok i) : opField (encode i) = opField w := by
  unfold decode at h
  split at h <;>
    first
    | (obtain ⟨-, rfl⟩ := requireZero_eq_ok.mp h
       simp only [encode, opField_packWord]
       exact (BitVec.eq_of_toNat_eq (by assumption)).symm)
    | (cases h
       simp only [encode, opField_packWord]
       exact (BitVec.eq_of_toNat_eq (by assumption)).symm)
    | cases h

end Sys2Proof
end

