-- ==== Sys2Proof/Laws/Memory.lean ====
section
/-! SUPPORT. The payload buffer: reading after writing, and the canonical form every write keeps. -/

namespace Sys2Proof.Machine

@[simp] theorem lookupCell_nil (i : Nat) : lookupCell [] i = none := rfl

/-- Reading after a write: the written index gives the written byte, any other index what it gave before. -/
theorem lookupCell_storeCell (m : List Host.Cell) (i j : Nat) (b : Byte) :
    lookupCell (storeCell m i b) j = if i = j then some b else lookupCell m j := by
  induction m with
  | nil => simp [storeCell, lookupCell]
  | cons c m ih =>
    obtain ⟨k, v⟩ := c
    simp only [storeCell]
    split
    · simp only [lookupCell]
    · split
      · subst_vars
        simp only [lookupCell]
        split <;> rfl
      · simp only [lookupCell, ih]
        split <;> simp_all

theorem mem_storeCell (m : List Host.Cell) (i : Nat) (b : Byte) (c : Host.Cell) (h : c ∈ storeCell m i b) :
    c = (i, b) ∨ c ∈ m := by
  induction m with
  | nil => simpa [storeCell] using h
  | cons d m ih =>
    simp only [storeCell] at h
    split at h
    · simpa using h
    · split at h
      · simp at h ⊢; tauto
      · simp at h ⊢; tauto

/-- A write inside the buffer keeps its canonical form. -/
theorem storeCell_wf (m : List Host.Cell) (i : Nat) (b : Byte) (hi : i < Config.payloadCap) (h : Memory.wf m) :
    Memory.wf (storeCell m i b) := by
  refine ⟨?_, fun c hc => ?_⟩
  · have hp := h.1
    clear h
    induction m with
    | nil => simp [storeCell]
    | cons d m ih =>
      have hd := List.pairwise_cons.mp hp
      simp only [storeCell]
      split
      · refine List.pairwise_cons.mpr ⟨fun c hc => ?_, hp⟩
        rcases List.mem_cons.mp hc with rfl | hc
        · assumption
        · exact lt_trans ‹_› (hd.1 c hc)
      · split
        · subst_vars; exact List.pairwise_cons.mpr ⟨hd.1, hd.2⟩
        · refine List.pairwise_cons.mpr ⟨fun c hc => ?_, ih hd.2⟩
          rcases mem_storeCell m i b c hc with rfl | hc
          · simp only; omega
          · exact hd.1 c hc
  · rcases mem_storeCell m i b c hc with rfl | hc
    · exact hi
    · exact h.2 c hc

/-- The empty buffer, which reset leaves, is in canonical form. -/
theorem nil_wf : Memory.wf [] := by simp [Memory.wf]

/-- What `storeByte` can answer. -/
theorem storeByte_eq_some {s t : State} {i : Nat} {b : Byte} (h : s.storeByte i b = some t) :
    i < Config.payloadCap ∧ t = { s with data := storeCell s.data i b } := by
  unfold State.storeByte at h
  split at h
  · exact ⟨‹_›, by simpa using h.symm⟩
  · cases h

theorem storeByte_of_lt (s : State) (i : Nat) (b : Byte) (h : i < Config.payloadCap) :
    s.storeByte i b = some { s with data := storeCell s.data i b } := by
  simp [State.storeByte, h]

/-- `DATA` depends on the listed bytes and the reset count only. -/
theorem dataByte_congr {s t : State} {i : Nat} (hd : lookupCell t.data i = lookupCell s.data i)
    (hr : t.resets = s.resets) : t.dataByte i = s.dataByte i := by
  simp [State.dataByte, hd, hr]

/-- A listed byte does not depend on any free value. -/
theorem dataByte_of_written {s t : State} {i : Nat} (hd : lookupCell t.data i = lookupCell s.data i)
    (hw : (lookupCell s.data i).isSome = true) : t.dataByte i = s.dataByte i := by
  obtain ⟨v, hv⟩ := Option.isSome_iff_exists.mp hw
  simp [State.dataByte, hd, hv]

end Sys2Proof.Machine
end

