-- ==== Sys2Proof/Laws/State.lean ====
section
/-! SUPPORT. One lemma per field per named update of State, true by rfl, and for the updates that depend on a case one
lemma per field they leave alone. -/

namespace Sys2Proof.Machine

/-! ## emit -/

@[simp] theorem State.emit_params (e : Event) (s : State) : (s.emit e).params = s.params := rfl
@[simp] theorem State.emit_fstate (e : Event) (s : State) : (s.emit e).fstate = s.fstate := rfl
@[simp] theorem State.emit_cursor (e : Event) (s : State) : (s.emit e).cursor = s.cursor := rfl
@[simp] theorem State.emit_acc (e : Event) (s : State) : (s.emit e).acc = s.acc := rfl
@[simp] theorem State.emit_hdr (e : Event) (s : State) : (s.emit e).hdr = s.hdr := rfl
@[simp] theorem State.emit_idByte (e : Event) (s : State) : (s.emit e).idByte = s.idByte := rfl
@[simp] theorem State.emit_len (e : Event) (s : State) : (s.emit e).len = s.len := rfl
@[simp] theorem State.emit_didx (e : Event) (s : State) : (s.emit e).didx = s.didx := rfl
@[simp] theorem State.emit_data (e : Event) (s : State) : (s.emit e).data = s.data := rfl
@[simp] theorem State.emit_ck (e : Event) (s : State) : (s.emit e).ck = s.ck := rfl
@[simp] theorem State.emit_ckidx (e : Event) (s : State) : (s.emit e).ckidx = s.ckidx := rfl
@[simp] theorem State.emit_valid (e : Event) (s : State) : (s.emit e).valid = s.valid := rfl
@[simp] theorem State.emit_acceptCnt (e : Event) (s : State) : (s.emit e).acceptCnt = s.acceptCnt := rfl
@[simp] theorem State.emit_rejectCnt (e : Event) (s : State) : (s.emit e).rejectCnt = s.rejectCnt := rfl
@[simp] theorem State.emit_rxEn (e : Event) (s : State) : (s.emit e).rxEn = s.rxEn := rfl
@[simp] theorem State.emit_hsState (e : Event) (s : State) : (s.emit e).hsState = s.hsState := rfl
@[simp] theorem State.emit_hsCount (e : Event) (s : State) : (s.emit e).hsCount = s.hsCount := rfl
@[simp] theorem State.emit_presence (e : Event) (s : State) : (s.emit e).presence = s.presence := rfl
@[simp] theorem State.emit_cmdErr (e : Event) (s : State) : (s.emit e).cmdErr = s.cmdErr := rfl
@[simp] theorem State.emit_unit (e : Event) (s : State) : (s.emit e).unit = s.unit := rfl
@[simp] theorem State.emit_ch (e : Event) (s : State) : (s.emit e).ch = s.ch := rfl
@[simp] theorem State.emit_out (e : Event) (s : State) : (s.emit e).out = s.out ++ [e] := rfl
@[simp] theorem State.emit_pending (e : Event) (s : State) : (s.emit e).pending = s.pending := rfl
@[simp] theorem State.emit_history (e : Event) (s : State) : (s.emit e).history = s.history := rfl
@[simp] theorem State.emit_resets (e : Event) (s : State) : (s.emit e).resets = s.resets := rfl

/-! ## chWrite -/

@[simp] theorem State.chWrite_params (i : Fin 4) (v : Half) (s : State) : (s.chWrite i v).params = s.params := rfl
@[simp] theorem State.chWrite_fstate (i : Fin 4) (v : Half) (s : State) : (s.chWrite i v).fstate = s.fstate := rfl
@[simp] theorem State.chWrite_cursor (i : Fin 4) (v : Half) (s : State) : (s.chWrite i v).cursor = s.cursor := rfl
@[simp] theorem State.chWrite_acc (i : Fin 4) (v : Half) (s : State) : (s.chWrite i v).acc = s.acc := rfl
@[simp] theorem State.chWrite_hdr (i : Fin 4) (v : Half) (s : State) : (s.chWrite i v).hdr = s.hdr := rfl
@[simp] theorem State.chWrite_idByte (i : Fin 4) (v : Half) (s : State) : (s.chWrite i v).idByte = s.idByte := rfl
@[simp] theorem State.chWrite_len (i : Fin 4) (v : Half) (s : State) : (s.chWrite i v).len = s.len := rfl
@[simp] theorem State.chWrite_didx (i : Fin 4) (v : Half) (s : State) : (s.chWrite i v).didx = s.didx := rfl
@[simp] theorem State.chWrite_data (i : Fin 4) (v : Half) (s : State) : (s.chWrite i v).data = s.data := rfl
@[simp] theorem State.chWrite_ck (i : Fin 4) (v : Half) (s : State) : (s.chWrite i v).ck = s.ck := rfl
@[simp] theorem State.chWrite_ckidx (i : Fin 4) (v : Half) (s : State) : (s.chWrite i v).ckidx = s.ckidx := rfl
@[simp] theorem State.chWrite_valid (i : Fin 4) (v : Half) (s : State) : (s.chWrite i v).valid = s.valid := rfl
@[simp] theorem State.chWrite_acceptCnt (i : Fin 4) (v : Half) (s : State) : (s.chWrite i v).acceptCnt = s.acceptCnt := rfl
@[simp] theorem State.chWrite_rejectCnt (i : Fin 4) (v : Half) (s : State) : (s.chWrite i v).rejectCnt = s.rejectCnt := rfl
@[simp] theorem State.chWrite_rxEn (i : Fin 4) (v : Half) (s : State) : (s.chWrite i v).rxEn = s.rxEn := rfl
@[simp] theorem State.chWrite_hsState (i : Fin 4) (v : Half) (s : State) : (s.chWrite i v).hsState = s.hsState := rfl
@[simp] theorem State.chWrite_hsCount (i : Fin 4) (v : Half) (s : State) : (s.chWrite i v).hsCount = s.hsCount := rfl
@[simp] theorem State.chWrite_presence (i : Fin 4) (v : Half) (s : State) : (s.chWrite i v).presence = s.presence := rfl
@[simp] theorem State.chWrite_cmdErr (i : Fin 4) (v : Half) (s : State) : (s.chWrite i v).cmdErr = s.cmdErr := rfl
@[simp] theorem State.chWrite_unit (i : Fin 4) (v : Half) (s : State) : (s.chWrite i v).unit = s.unit := rfl
@[simp] theorem State.chWrite_ch (i : Fin 4) (v : Half) (s : State) : (s.chWrite i v).ch = s.ch.set i v := rfl
@[simp] theorem State.chWrite_out (i : Fin 4) (v : Half) (s : State) : (s.chWrite i v).out = s.out ++ [.chWrite i v] := rfl
@[simp] theorem State.chWrite_pending (i : Fin 4) (v : Half) (s : State) : (s.chWrite i v).pending = s.pending := rfl
@[simp] theorem State.chWrite_history (i : Fin 4) (v : Half) (s : State) : (s.chWrite i v).history = s.history := rfl
@[simp] theorem State.chWrite_resets (i : Fin 4) (v : Half) (s : State) : (s.chWrite i v).resets = s.resets := rfl

/-! ## raiseIllegalCommand -/

@[simp] theorem State.raiseIllegalCommand_params (s : State) : s.raiseIllegalCommand.params = s.params := rfl
@[simp] theorem State.raiseIllegalCommand_fstate (s : State) : s.raiseIllegalCommand.fstate = s.fstate := rfl
@[simp] theorem State.raiseIllegalCommand_cursor (s : State) : s.raiseIllegalCommand.cursor = s.cursor := rfl
@[simp] theorem State.raiseIllegalCommand_acc (s : State) : s.raiseIllegalCommand.acc = s.acc := rfl
@[simp] theorem State.raiseIllegalCommand_hdr (s : State) : s.raiseIllegalCommand.hdr = s.hdr := rfl
@[simp] theorem State.raiseIllegalCommand_idByte (s : State) : s.raiseIllegalCommand.idByte = s.idByte := rfl
@[simp] theorem State.raiseIllegalCommand_len (s : State) : s.raiseIllegalCommand.len = s.len := rfl
@[simp] theorem State.raiseIllegalCommand_didx (s : State) : s.raiseIllegalCommand.didx = s.didx := rfl
@[simp] theorem State.raiseIllegalCommand_data (s : State) : s.raiseIllegalCommand.data = s.data := rfl
@[simp] theorem State.raiseIllegalCommand_ck (s : State) : s.raiseIllegalCommand.ck = s.ck := rfl
@[simp] theorem State.raiseIllegalCommand_ckidx (s : State) : s.raiseIllegalCommand.ckidx = s.ckidx := rfl
@[simp] theorem State.raiseIllegalCommand_valid (s : State) : s.raiseIllegalCommand.valid = s.valid := rfl
@[simp] theorem State.raiseIllegalCommand_acceptCnt (s : State) : s.raiseIllegalCommand.acceptCnt = s.acceptCnt := rfl
@[simp] theorem State.raiseIllegalCommand_rejectCnt (s : State) : s.raiseIllegalCommand.rejectCnt = s.rejectCnt := rfl
@[simp] theorem State.raiseIllegalCommand_rxEn (s : State) : s.raiseIllegalCommand.rxEn = s.rxEn := rfl
@[simp] theorem State.raiseIllegalCommand_hsState (s : State) : s.raiseIllegalCommand.hsState = s.hsState := rfl
@[simp] theorem State.raiseIllegalCommand_hsCount (s : State) : s.raiseIllegalCommand.hsCount = s.hsCount := rfl
@[simp] theorem State.raiseIllegalCommand_presence (s : State) : s.raiseIllegalCommand.presence = s.presence := rfl
@[simp] theorem State.raiseIllegalCommand_cmdErr (s : State) : s.raiseIllegalCommand.cmdErr = true := rfl
@[simp] theorem State.raiseIllegalCommand_unit (s : State) : s.raiseIllegalCommand.unit = s.unit := rfl
@[simp] theorem State.raiseIllegalCommand_ch (s : State) : s.raiseIllegalCommand.ch = s.ch := rfl
@[simp] theorem State.raiseIllegalCommand_out (s : State) : s.raiseIllegalCommand.out = s.out := rfl
@[simp] theorem State.raiseIllegalCommand_pending (s : State) : s.raiseIllegalCommand.pending = s.pending := rfl
@[simp] theorem State.raiseIllegalCommand_history (s : State) : s.raiseIllegalCommand.history = s.history := rfl
@[simp] theorem State.raiseIllegalCommand_resets (s : State) : s.raiseIllegalCommand.resets = s.resets := rfl

/-! ## clearAccumulator -/

@[simp] theorem State.clearAccumulator_params (s : State) : s.clearAccumulator.params = s.params := rfl
@[simp] theorem State.clearAccumulator_fstate (s : State) : s.clearAccumulator.fstate = s.fstate := rfl
@[simp] theorem State.clearAccumulator_cursor (s : State) : s.clearAccumulator.cursor = 0 := rfl
@[simp] theorem State.clearAccumulator_acc (s : State) : s.clearAccumulator.acc = 0 := rfl
@[simp] theorem State.clearAccumulator_hdr (s : State) : s.clearAccumulator.hdr = s.hdr := rfl
@[simp] theorem State.clearAccumulator_idByte (s : State) : s.clearAccumulator.idByte = s.idByte := rfl
@[simp] theorem State.clearAccumulator_len (s : State) : s.clearAccumulator.len = s.len := rfl
@[simp] theorem State.clearAccumulator_didx (s : State) : s.clearAccumulator.didx = s.didx := rfl
@[simp] theorem State.clearAccumulator_data (s : State) : s.clearAccumulator.data = s.data := rfl
@[simp] theorem State.clearAccumulator_ck (s : State) : s.clearAccumulator.ck = s.ck := rfl
@[simp] theorem State.clearAccumulator_ckidx (s : State) : s.clearAccumulator.ckidx = s.ckidx := rfl
@[simp] theorem State.clearAccumulator_valid (s : State) : s.clearAccumulator.valid = s.valid := rfl
@[simp] theorem State.clearAccumulator_acceptCnt (s : State) : s.clearAccumulator.acceptCnt = s.acceptCnt := rfl
@[simp] theorem State.clearAccumulator_rejectCnt (s : State) : s.clearAccumulator.rejectCnt = s.rejectCnt := rfl
@[simp] theorem State.clearAccumulator_rxEn (s : State) : s.clearAccumulator.rxEn = s.rxEn := rfl
@[simp] theorem State.clearAccumulator_hsState (s : State) : s.clearAccumulator.hsState = s.hsState := rfl
@[simp] theorem State.clearAccumulator_hsCount (s : State) : s.clearAccumulator.hsCount = s.hsCount := rfl
@[simp] theorem State.clearAccumulator_presence (s : State) : s.clearAccumulator.presence = s.presence := rfl
@[simp] theorem State.clearAccumulator_cmdErr (s : State) : s.clearAccumulator.cmdErr = s.cmdErr := rfl
@[simp] theorem State.clearAccumulator_unit (s : State) : s.clearAccumulator.unit = s.unit := rfl
@[simp] theorem State.clearAccumulator_ch (s : State) : s.clearAccumulator.ch = s.ch := rfl
@[simp] theorem State.clearAccumulator_out (s : State) : s.clearAccumulator.out = s.out := rfl
@[simp] theorem State.clearAccumulator_pending (s : State) : s.clearAccumulator.pending = s.pending := rfl
@[simp] theorem State.clearAccumulator_history (s : State) : s.clearAccumulator.history = s.history := rfl
@[simp] theorem State.clearAccumulator_resets (s : State) : s.clearAccumulator.resets = s.resets := rfl

/-! ## startChecksum -/

@[simp] theorem State.startChecksum_params (s : State) : s.startChecksum.params = s.params := rfl
@[simp] theorem State.startChecksum_fstate (s : State) : s.startChecksum.fstate = .awaitChecksum := rfl
@[simp] theorem State.startChecksum_cursor (s : State) : s.startChecksum.cursor = s.cursor := rfl
@[simp] theorem State.startChecksum_acc (s : State) : s.startChecksum.acc = s.acc := rfl
@[simp] theorem State.startChecksum_hdr (s : State) : s.startChecksum.hdr = s.hdr := rfl
@[simp] theorem State.startChecksum_idByte (s : State) : s.startChecksum.idByte = s.idByte := rfl
@[simp] theorem State.startChecksum_len (s : State) : s.startChecksum.len = s.len := rfl
@[simp] theorem State.startChecksum_didx (s : State) : s.startChecksum.didx = s.didx := rfl
@[simp] theorem State.startChecksum_data (s : State) : s.startChecksum.data = s.data := rfl
@[simp] theorem State.startChecksum_ck (s : State) : s.startChecksum.ck = 0 := rfl
@[simp] theorem State.startChecksum_ckidx (s : State) : s.startChecksum.ckidx = 0 := rfl
@[simp] theorem State.startChecksum_valid (s : State) : s.startChecksum.valid = s.valid := rfl
@[simp] theorem State.startChecksum_acceptCnt (s : State) : s.startChecksum.acceptCnt = s.acceptCnt := rfl
@[simp] theorem State.startChecksum_rejectCnt (s : State) : s.startChecksum.rejectCnt = s.rejectCnt := rfl
@[simp] theorem State.startChecksum_rxEn (s : State) : s.startChecksum.rxEn = s.rxEn := rfl
@[simp] theorem State.startChecksum_hsState (s : State) : s.startChecksum.hsState = s.hsState := rfl
@[simp] theorem State.startChecksum_hsCount (s : State) : s.startChecksum.hsCount = s.hsCount := rfl
@[simp] theorem State.startChecksum_presence (s : State) : s.startChecksum.presence = s.presence := rfl
@[simp] theorem State.startChecksum_cmdErr (s : State) : s.startChecksum.cmdErr = s.cmdErr := rfl
@[simp] theorem State.startChecksum_unit (s : State) : s.startChecksum.unit = s.unit := rfl
@[simp] theorem State.startChecksum_ch (s : State) : s.startChecksum.ch = s.ch := rfl
@[simp] theorem State.startChecksum_out (s : State) : s.startChecksum.out = s.out := rfl
@[simp] theorem State.startChecksum_pending (s : State) : s.startChecksum.pending = s.pending := rfl
@[simp] theorem State.startChecksum_history (s : State) : s.startChecksum.history = s.history := rfl
@[simp] theorem State.startChecksum_resets (s : State) : s.startChecksum.resets = s.resets := rfl

/-! ## reject -/

@[simp] theorem State.reject_params (s : State) : s.reject.params = s.params := rfl
@[simp] theorem State.reject_fstate (s : State) : s.reject.fstate = s.fstate := rfl
@[simp] theorem State.reject_cursor (s : State) : s.reject.cursor = s.cursor := rfl
@[simp] theorem State.reject_acc (s : State) : s.reject.acc = s.acc := rfl
@[simp] theorem State.reject_hdr (s : State) : s.reject.hdr = s.hdr := rfl
@[simp] theorem State.reject_idByte (s : State) : s.reject.idByte = s.idByte := rfl
@[simp] theorem State.reject_len (s : State) : s.reject.len = s.len := rfl
@[simp] theorem State.reject_didx (s : State) : s.reject.didx = s.didx := rfl
@[simp] theorem State.reject_data (s : State) : s.reject.data = s.data := rfl
@[simp] theorem State.reject_ck (s : State) : s.reject.ck = s.ck := rfl
@[simp] theorem State.reject_ckidx (s : State) : s.reject.ckidx = s.ckidx := rfl
@[simp] theorem State.reject_valid (s : State) : s.reject.valid = s.valid := rfl
@[simp] theorem State.reject_acceptCnt (s : State) : s.reject.acceptCnt = s.acceptCnt := rfl
@[simp] theorem State.reject_rejectCnt (s : State) : s.reject.rejectCnt = s.rejectCnt + 1 := rfl
@[simp] theorem State.reject_rxEn (s : State) : s.reject.rxEn = s.rxEn := rfl
@[simp] theorem State.reject_hsState (s : State) : s.reject.hsState = s.hsState := rfl
@[simp] theorem State.reject_hsCount (s : State) : s.reject.hsCount = s.hsCount := rfl
@[simp] theorem State.reject_presence (s : State) : s.reject.presence = s.presence := rfl
@[simp] theorem State.reject_cmdErr (s : State) : s.reject.cmdErr = s.cmdErr := rfl
@[simp] theorem State.reject_unit (s : State) : s.reject.unit = s.unit := rfl
@[simp] theorem State.reject_ch (s : State) : s.reject.ch = s.ch := rfl
@[simp] theorem State.reject_out (s : State) : s.reject.out = s.out := rfl
@[simp] theorem State.reject_pending (s : State) : s.reject.pending = s.pending := rfl
@[simp] theorem State.reject_history (s : State) : s.reject.history = s.history := rfl
@[simp] theorem State.reject_resets (s : State) : s.reject.resets = s.resets := rfl

/-! ## endValidation -/

@[simp] theorem State.endValidation_params (s : State) : s.endValidation.params = s.params := rfl
@[simp] theorem State.endValidation_fstate (s : State) : s.endValidation.fstate = .awaitHeader := rfl
@[simp] theorem State.endValidation_cursor (s : State) : s.endValidation.cursor = s.cursor := rfl
@[simp] theorem State.endValidation_acc (s : State) : s.endValidation.acc = s.acc := rfl
@[simp] theorem State.endValidation_hdr (s : State) : s.endValidation.hdr = s.hdr := rfl
@[simp] theorem State.endValidation_idByte (s : State) : s.endValidation.idByte = s.idByte := rfl
@[simp] theorem State.endValidation_len (s : State) : s.endValidation.len = s.len := rfl
@[simp] theorem State.endValidation_didx (s : State) : s.endValidation.didx = s.didx := rfl
@[simp] theorem State.endValidation_data (s : State) : s.endValidation.data = s.data := rfl
@[simp] theorem State.endValidation_ck (s : State) : s.endValidation.ck = s.ck := rfl
@[simp] theorem State.endValidation_ckidx (s : State) : s.endValidation.ckidx = s.ckidx := rfl
@[simp] theorem State.endValidation_valid (s : State) : s.endValidation.valid = false := rfl
@[simp] theorem State.endValidation_acceptCnt (s : State) : s.endValidation.acceptCnt = s.acceptCnt := rfl
@[simp] theorem State.endValidation_rejectCnt (s : State) : s.endValidation.rejectCnt = s.rejectCnt := rfl
@[simp] theorem State.endValidation_rxEn (s : State) : s.endValidation.rxEn = s.rxEn := rfl
@[simp] theorem State.endValidation_hsState (s : State) : s.endValidation.hsState = s.hsState := rfl
@[simp] theorem State.endValidation_hsCount (s : State) : s.endValidation.hsCount = s.hsCount := rfl
@[simp] theorem State.endValidation_presence (s : State) : s.endValidation.presence = s.presence := rfl
@[simp] theorem State.endValidation_cmdErr (s : State) : s.endValidation.cmdErr = s.cmdErr := rfl
@[simp] theorem State.endValidation_unit (s : State) : s.endValidation.unit = s.unit := rfl
@[simp] theorem State.endValidation_ch (s : State) : s.endValidation.ch = s.ch := rfl
@[simp] theorem State.endValidation_out (s : State) : s.endValidation.out = s.out := rfl
@[simp] theorem State.endValidation_pending (s : State) : s.endValidation.pending = s.pending := rfl
@[simp] theorem State.endValidation_history (s : State) : s.endValidation.history = s.history := rfl
@[simp] theorem State.endValidation_resets (s : State) : s.endValidation.resets = s.resets := rfl

/-! ## beginCommand -/

@[simp] theorem State.beginCommand_params (s : State) (rest : List PortInput) : (s.beginCommand rest).params = s.params := rfl
@[simp] theorem State.beginCommand_fstate (s : State) (rest : List PortInput) : (s.beginCommand rest).fstate = s.fstate := rfl
@[simp] theorem State.beginCommand_cursor (s : State) (rest : List PortInput) : (s.beginCommand rest).cursor = s.cursor := rfl
@[simp] theorem State.beginCommand_acc (s : State) (rest : List PortInput) : (s.beginCommand rest).acc = s.acc := rfl
@[simp] theorem State.beginCommand_hdr (s : State) (rest : List PortInput) : (s.beginCommand rest).hdr = s.hdr := rfl
@[simp] theorem State.beginCommand_idByte (s : State) (rest : List PortInput) : (s.beginCommand rest).idByte = s.idByte := rfl
@[simp] theorem State.beginCommand_len (s : State) (rest : List PortInput) : (s.beginCommand rest).len = s.len := rfl
@[simp] theorem State.beginCommand_didx (s : State) (rest : List PortInput) : (s.beginCommand rest).didx = s.didx := rfl
@[simp] theorem State.beginCommand_data (s : State) (rest : List PortInput) : (s.beginCommand rest).data = s.data := rfl
@[simp] theorem State.beginCommand_ck (s : State) (rest : List PortInput) : (s.beginCommand rest).ck = s.ck := rfl
@[simp] theorem State.beginCommand_ckidx (s : State) (rest : List PortInput) : (s.beginCommand rest).ckidx = s.ckidx := rfl
@[simp] theorem State.beginCommand_valid (s : State) (rest : List PortInput) : (s.beginCommand rest).valid = s.valid := rfl
@[simp] theorem State.beginCommand_acceptCnt (s : State) (rest : List PortInput) : (s.beginCommand rest).acceptCnt = s.acceptCnt := rfl
@[simp] theorem State.beginCommand_rejectCnt (s : State) (rest : List PortInput) : (s.beginCommand rest).rejectCnt = s.rejectCnt := rfl
@[simp] theorem State.beginCommand_rxEn (s : State) (rest : List PortInput) : (s.beginCommand rest).rxEn = s.rxEn := rfl
@[simp] theorem State.beginCommand_hsState (s : State) (rest : List PortInput) : (s.beginCommand rest).hsState = s.hsState := rfl
@[simp] theorem State.beginCommand_hsCount (s : State) (rest : List PortInput) : (s.beginCommand rest).hsCount = s.hsCount := rfl
@[simp] theorem State.beginCommand_presence (s : State) (rest : List PortInput) : (s.beginCommand rest).presence = s.presence := rfl
@[simp] theorem State.beginCommand_cmdErr (s : State) (rest : List PortInput) : (s.beginCommand rest).cmdErr = s.cmdErr := rfl
@[simp] theorem State.beginCommand_unit (s : State) (rest : List PortInput) : (s.beginCommand rest).unit = s.unit := rfl
@[simp] theorem State.beginCommand_ch (s : State) (rest : List PortInput) : (s.beginCommand rest).ch = s.ch := rfl
@[simp] theorem State.beginCommand_out (s : State) (rest : List PortInput) : (s.beginCommand rest).out = [] := rfl
@[simp] theorem State.beginCommand_pending (s : State) (rest : List PortInput) : (s.beginCommand rest).pending = rest := rfl
@[simp] theorem State.beginCommand_history (s : State) (rest : List PortInput) : (s.beginCommand rest).history = s.history := rfl
@[simp] theorem State.beginCommand_resets (s : State) (rest : List PortInput) : (s.beginCommand rest).resets = s.resets := rfl

/-! ## recordEvents -/

@[simp] theorem State.recordEvents_params (s : State) : s.recordEvents.params = s.params := rfl
@[simp] theorem State.recordEvents_fstate (s : State) : s.recordEvents.fstate = s.fstate := rfl
@[simp] theorem State.recordEvents_cursor (s : State) : s.recordEvents.cursor = s.cursor := rfl
@[simp] theorem State.recordEvents_acc (s : State) : s.recordEvents.acc = s.acc := rfl
@[simp] theorem State.recordEvents_hdr (s : State) : s.recordEvents.hdr = s.hdr := rfl
@[simp] theorem State.recordEvents_idByte (s : State) : s.recordEvents.idByte = s.idByte := rfl
@[simp] theorem State.recordEvents_len (s : State) : s.recordEvents.len = s.len := rfl
@[simp] theorem State.recordEvents_didx (s : State) : s.recordEvents.didx = s.didx := rfl
@[simp] theorem State.recordEvents_data (s : State) : s.recordEvents.data = s.data := rfl
@[simp] theorem State.recordEvents_ck (s : State) : s.recordEvents.ck = s.ck := rfl
@[simp] theorem State.recordEvents_ckidx (s : State) : s.recordEvents.ckidx = s.ckidx := rfl
@[simp] theorem State.recordEvents_valid (s : State) : s.recordEvents.valid = s.valid := rfl
@[simp] theorem State.recordEvents_acceptCnt (s : State) : s.recordEvents.acceptCnt = s.acceptCnt := rfl
@[simp] theorem State.recordEvents_rejectCnt (s : State) : s.recordEvents.rejectCnt = s.rejectCnt := rfl
@[simp] theorem State.recordEvents_rxEn (s : State) : s.recordEvents.rxEn = s.rxEn := rfl
@[simp] theorem State.recordEvents_hsState (s : State) : s.recordEvents.hsState = s.hsState := rfl
@[simp] theorem State.recordEvents_hsCount (s : State) : s.recordEvents.hsCount = s.hsCount := rfl
@[simp] theorem State.recordEvents_presence (s : State) : s.recordEvents.presence = s.presence := rfl
@[simp] theorem State.recordEvents_cmdErr (s : State) : s.recordEvents.cmdErr = s.cmdErr := rfl
@[simp] theorem State.recordEvents_unit (s : State) : s.recordEvents.unit = s.unit := rfl
@[simp] theorem State.recordEvents_ch (s : State) : s.recordEvents.ch = s.ch := rfl
@[simp] theorem State.recordEvents_out (s : State) : s.recordEvents.out = s.out := rfl
@[simp] theorem State.recordEvents_pending (s : State) : s.recordEvents.pending = s.pending := rfl
@[simp] theorem State.recordEvents_history (s : State) : s.recordEvents.history = s.history ++ s.out := rfl
@[simp] theorem State.recordEvents_resets (s : State) : s.recordEvents.resets = s.resets := rfl

/-! ## presentWord -/

@[simp] theorem State.presentWord_params (s : State) (w : CommandWord) : (s.presentWord w).params = s.params := rfl
@[simp] theorem State.presentWord_fstate (s : State) (w : CommandWord) : (s.presentWord w).fstate = s.fstate := rfl
@[simp] theorem State.presentWord_cursor (s : State) (w : CommandWord) : (s.presentWord w).cursor = s.cursor := rfl
@[simp] theorem State.presentWord_acc (s : State) (w : CommandWord) : (s.presentWord w).acc = s.acc := rfl
@[simp] theorem State.presentWord_hdr (s : State) (w : CommandWord) : (s.presentWord w).hdr = s.hdr := rfl
@[simp] theorem State.presentWord_idByte (s : State) (w : CommandWord) : (s.presentWord w).idByte = s.idByte := rfl
@[simp] theorem State.presentWord_len (s : State) (w : CommandWord) : (s.presentWord w).len = s.len := rfl
@[simp] theorem State.presentWord_didx (s : State) (w : CommandWord) : (s.presentWord w).didx = s.didx := rfl
@[simp] theorem State.presentWord_data (s : State) (w : CommandWord) : (s.presentWord w).data = s.data := rfl
@[simp] theorem State.presentWord_ck (s : State) (w : CommandWord) : (s.presentWord w).ck = s.ck := rfl
@[simp] theorem State.presentWord_ckidx (s : State) (w : CommandWord) : (s.presentWord w).ckidx = s.ckidx := rfl
@[simp] theorem State.presentWord_valid (s : State) (w : CommandWord) : (s.presentWord w).valid = s.valid := rfl
@[simp] theorem State.presentWord_acceptCnt (s : State) (w : CommandWord) : (s.presentWord w).acceptCnt = s.acceptCnt := rfl
@[simp] theorem State.presentWord_rejectCnt (s : State) (w : CommandWord) : (s.presentWord w).rejectCnt = s.rejectCnt := rfl
@[simp] theorem State.presentWord_rxEn (s : State) (w : CommandWord) : (s.presentWord w).rxEn = s.rxEn := rfl
@[simp] theorem State.presentWord_hsState (s : State) (w : CommandWord) : (s.presentWord w).hsState = s.hsState := rfl
@[simp] theorem State.presentWord_hsCount (s : State) (w : CommandWord) : (s.presentWord w).hsCount = s.hsCount := rfl
@[simp] theorem State.presentWord_presence (s : State) (w : CommandWord) : (s.presentWord w).presence = s.presence := rfl
@[simp] theorem State.presentWord_cmdErr (s : State) (w : CommandWord) : (s.presentWord w).cmdErr = s.cmdErr := rfl
@[simp] theorem State.presentWord_unit (s : State) (w : CommandWord) : (s.presentWord w).unit = s.unit := rfl
@[simp] theorem State.presentWord_ch (s : State) (w : CommandWord) : (s.presentWord w).ch = s.ch := rfl
@[simp] theorem State.presentWord_out (s : State) (w : CommandWord) : (s.presentWord w).out = s.out := rfl
@[simp] theorem State.presentWord_pending (s : State) (w : CommandWord) : (s.presentWord w).pending = .command w :: s.pending := rfl
@[simp] theorem State.presentWord_history (s : State) (w : CommandWord) : (s.presentWord w).history = s.history := rfl
@[simp] theorem State.presentWord_resets (s : State) (w : CommandWord) : (s.presentWord w).resets = s.resets := rfl

/-! ## openSession -/

@[simp] theorem State.openSession_params (s : State) : s.openSession.params = s.params := rfl
@[simp] theorem State.openSession_fstate (s : State) : s.openSession.fstate = .awaitHeader := rfl
@[simp] theorem State.openSession_cursor (s : State) : s.openSession.cursor = 0 := rfl
@[simp] theorem State.openSession_acc (s : State) : s.openSession.acc = 0 := rfl
@[simp] theorem State.openSession_hdr (s : State) : s.openSession.hdr = 0 := rfl
@[simp] theorem State.openSession_idByte (s : State) : s.openSession.idByte = 0 := rfl
@[simp] theorem State.openSession_len (s : State) : s.openSession.len = 0 := rfl
@[simp] theorem State.openSession_didx (s : State) : s.openSession.didx = 0 := rfl
@[simp] theorem State.openSession_data (s : State) : s.openSession.data = s.data := rfl
@[simp] theorem State.openSession_ck (s : State) : s.openSession.ck = 0 := rfl
@[simp] theorem State.openSession_ckidx (s : State) : s.openSession.ckidx = 0 := rfl
@[simp] theorem State.openSession_valid (s : State) : s.openSession.valid = s.valid := rfl
@[simp] theorem State.openSession_acceptCnt (s : State) : s.openSession.acceptCnt = 0 := rfl
@[simp] theorem State.openSession_rejectCnt (s : State) : s.openSession.rejectCnt = 0 := rfl
@[simp] theorem State.openSession_rxEn (s : State) : s.openSession.rxEn = true := rfl
@[simp] theorem State.openSession_hsState (s : State) : s.openSession.hsState = .polling := rfl
@[simp] theorem State.openSession_hsCount (s : State) : s.openSession.hsCount = 0 := rfl
@[simp] theorem State.openSession_presence (s : State) : s.openSession.presence = false := rfl
@[simp] theorem State.openSession_cmdErr (s : State) : s.openSession.cmdErr = s.cmdErr := rfl
@[simp] theorem State.openSession_unit (s : State) : s.openSession.unit = s.unit := rfl
@[simp] theorem State.openSession_ch (s : State) : s.openSession.ch = s.ch := rfl
@[simp] theorem State.openSession_out (s : State) : s.openSession.out = s.out := rfl
@[simp] theorem State.openSession_pending (s : State) : s.openSession.pending = s.pending := rfl
@[simp] theorem State.openSession_history (s : State) : s.openSession.history = s.history := rfl
@[simp] theorem State.openSession_resets (s : State) : s.openSession.resets = s.resets := rfl

/-! ## portReset -/

@[simp] theorem State.portReset_params (s : State) : s.portReset.params = s.params := rfl
@[simp] theorem State.portReset_fstate (s : State) : s.portReset.fstate = .awaitHeader := rfl
@[simp] theorem State.portReset_cursor (s : State) : s.portReset.cursor = 0 := rfl
@[simp] theorem State.portReset_acc (s : State) : s.portReset.acc = 0 := rfl
@[simp] theorem State.portReset_hdr (s : State) : s.portReset.hdr = 0 := rfl
@[simp] theorem State.portReset_idByte (s : State) : s.portReset.idByte = 0 := rfl
@[simp] theorem State.portReset_len (s : State) : s.portReset.len = 0 := rfl
@[simp] theorem State.portReset_didx (s : State) : s.portReset.didx = 0 := rfl
@[simp] theorem State.portReset_data (s : State) : s.portReset.data = [] := rfl
@[simp] theorem State.portReset_ck (s : State) : s.portReset.ck = 0 := rfl
@[simp] theorem State.portReset_ckidx (s : State) : s.portReset.ckidx = 0 := rfl
@[simp] theorem State.portReset_valid (s : State) : s.portReset.valid = false := rfl
@[simp] theorem State.portReset_acceptCnt (s : State) : s.portReset.acceptCnt = 0 := rfl
@[simp] theorem State.portReset_rejectCnt (s : State) : s.portReset.rejectCnt = 0 := rfl
@[simp] theorem State.portReset_rxEn (s : State) : s.portReset.rxEn = false := rfl
@[simp] theorem State.portReset_hsState (s : State) : s.portReset.hsState = .idle := rfl
@[simp] theorem State.portReset_hsCount (s : State) : s.portReset.hsCount = 0 := rfl
@[simp] theorem State.portReset_presence (s : State) : s.portReset.presence = false := rfl
@[simp] theorem State.portReset_cmdErr (s : State) : s.portReset.cmdErr = false := rfl
@[simp] theorem State.portReset_unit (s : State) : s.portReset.unit = 43 := rfl
@[simp] theorem State.portReset_ch (s : State) : s.portReset.ch = s.ch := rfl
@[simp] theorem State.portReset_out (s : State) : s.portReset.out = [] := rfl
@[simp] theorem State.portReset_pending (s : State) : s.portReset.pending = s.pending := rfl
@[simp] theorem State.portReset_history (s : State) : s.portReset.history = s.history := rfl
@[simp] theorem State.portReset_resets (s : State) : s.portReset.resets = s.resets + 1 := rfl

/-! ## pollSucceeds -/

@[simp] theorem State.pollSucceeds_params (s : State) : s.pollSucceeds.params = s.params := rfl
@[simp] theorem State.pollSucceeds_fstate (s : State) : s.pollSucceeds.fstate = s.fstate := rfl
@[simp] theorem State.pollSucceeds_cursor (s : State) : s.pollSucceeds.cursor = s.cursor := rfl
@[simp] theorem State.pollSucceeds_acc (s : State) : s.pollSucceeds.acc = s.acc := rfl
@[simp] theorem State.pollSucceeds_hdr (s : State) : s.pollSucceeds.hdr = s.hdr := rfl
@[simp] theorem State.pollSucceeds_idByte (s : State) : s.pollSucceeds.idByte = s.idByte := rfl
@[simp] theorem State.pollSucceeds_len (s : State) : s.pollSucceeds.len = s.len := rfl
@[simp] theorem State.pollSucceeds_didx (s : State) : s.pollSucceeds.didx = s.didx := rfl
@[simp] theorem State.pollSucceeds_data (s : State) : s.pollSucceeds.data = s.data := rfl
@[simp] theorem State.pollSucceeds_ck (s : State) : s.pollSucceeds.ck = s.ck := rfl
@[simp] theorem State.pollSucceeds_ckidx (s : State) : s.pollSucceeds.ckidx = s.ckidx := rfl
@[simp] theorem State.pollSucceeds_valid (s : State) : s.pollSucceeds.valid = s.valid := rfl
@[simp] theorem State.pollSucceeds_acceptCnt (s : State) : s.pollSucceeds.acceptCnt = s.acceptCnt := rfl
@[simp] theorem State.pollSucceeds_rejectCnt (s : State) : s.pollSucceeds.rejectCnt = s.rejectCnt := rfl
@[simp] theorem State.pollSucceeds_rxEn (s : State) : s.pollSucceeds.rxEn = s.rxEn := rfl
@[simp] theorem State.pollSucceeds_hsState (s : State) : s.pollSucceeds.hsState = .success := rfl
@[simp] theorem State.pollSucceeds_hsCount (s : State) : s.pollSucceeds.hsCount = s.hsCount := rfl
@[simp] theorem State.pollSucceeds_presence (s : State) : s.pollSucceeds.presence = s.presence := rfl
@[simp] theorem State.pollSucceeds_cmdErr (s : State) : s.pollSucceeds.cmdErr = s.cmdErr := rfl
@[simp] theorem State.pollSucceeds_unit (s : State) : s.pollSucceeds.unit = s.unit := rfl
@[simp] theorem State.pollSucceeds_ch (s : State) : s.pollSucceeds.ch = s.ch := rfl
@[simp] theorem State.pollSucceeds_out (s : State) : s.pollSucceeds.out = s.out ++ [.hsResult true] := rfl
@[simp] theorem State.pollSucceeds_pending (s : State) : s.pollSucceeds.pending = s.pending := rfl
@[simp] theorem State.pollSucceeds_history (s : State) : s.pollSucceeds.history = s.history := rfl
@[simp] theorem State.pollSucceeds_resets (s : State) : s.pollSucceeds.resets = s.resets := rfl

/-! ## Updates that depend on a case -/

@[simp] theorem State.notePresence_params (r : PresenceRule) (s : State) : (s.notePresence r).params = s.params := by unfold State.notePresence; split <;> rfl
@[simp] theorem State.notePresence_fstate (r : PresenceRule) (s : State) : (s.notePresence r).fstate = s.fstate := by unfold State.notePresence; split <;> rfl
@[simp] theorem State.notePresence_cursor (r : PresenceRule) (s : State) : (s.notePresence r).cursor = s.cursor := by unfold State.notePresence; split <;> rfl
@[simp] theorem State.notePresence_acc (r : PresenceRule) (s : State) : (s.notePresence r).acc = s.acc := by unfold State.notePresence; split <;> rfl
@[simp] theorem State.notePresence_hdr (r : PresenceRule) (s : State) : (s.notePresence r).hdr = s.hdr := by unfold State.notePresence; split <;> rfl
@[simp] theorem State.notePresence_idByte (r : PresenceRule) (s : State) : (s.notePresence r).idByte = s.idByte := by unfold State.notePresence; split <;> rfl
@[simp] theorem State.notePresence_len (r : PresenceRule) (s : State) : (s.notePresence r).len = s.len := by unfold State.notePresence; split <;> rfl
@[simp] theorem State.notePresence_didx (r : PresenceRule) (s : State) : (s.notePresence r).didx = s.didx := by unfold State.notePresence; split <;> rfl
@[simp] theorem State.notePresence_data (r : PresenceRule) (s : State) : (s.notePresence r).data = s.data := by unfold State.notePresence; split <;> rfl
@[simp] theorem State.notePresence_ck (r : PresenceRule) (s : State) : (s.notePresence r).ck = s.ck := by unfold State.notePresence; split <;> rfl
@[simp] theorem State.notePresence_ckidx (r : PresenceRule) (s : State) : (s.notePresence r).ckidx = s.ckidx := by unfold State.notePresence; split <;> rfl
@[simp] theorem State.notePresence_valid (r : PresenceRule) (s : State) : (s.notePresence r).valid = s.valid := by unfold State.notePresence; split <;> rfl
@[simp] theorem State.notePresence_acceptCnt (r : PresenceRule) (s : State) : (s.notePresence r).acceptCnt = s.acceptCnt := by unfold State.notePresence; split <;> rfl
@[simp] theorem State.notePresence_rejectCnt (r : PresenceRule) (s : State) : (s.notePresence r).rejectCnt = s.rejectCnt := by unfold State.notePresence; split <;> rfl
@[simp] theorem State.notePresence_rxEn (r : PresenceRule) (s : State) : (s.notePresence r).rxEn = s.rxEn := by unfold State.notePresence; split <;> rfl
@[simp] theorem State.notePresence_hsState (r : PresenceRule) (s : State) : (s.notePresence r).hsState = s.hsState := by unfold State.notePresence; split <;> rfl
@[simp] theorem State.notePresence_hsCount (r : PresenceRule) (s : State) : (s.notePresence r).hsCount = s.hsCount := by unfold State.notePresence; split <;> rfl
@[simp] theorem State.notePresence_presence (r : PresenceRule) (s : State) : (s.notePresence r).presence = (s.presence || decide (s.params.presenceRule = r)) := by unfold State.notePresence; split <;> simp_all
@[simp] theorem State.notePresence_cmdErr (r : PresenceRule) (s : State) : (s.notePresence r).cmdErr = s.cmdErr := by unfold State.notePresence; split <;> rfl
@[simp] theorem State.notePresence_unit (r : PresenceRule) (s : State) : (s.notePresence r).unit = s.unit := by unfold State.notePresence; split <;> rfl
@[simp] theorem State.notePresence_ch (r : PresenceRule) (s : State) : (s.notePresence r).ch = s.ch := by unfold State.notePresence; split <;> rfl
@[simp] theorem State.notePresence_out (r : PresenceRule) (s : State) : (s.notePresence r).out = s.out := by unfold State.notePresence; split <;> rfl
@[simp] theorem State.notePresence_pending (r : PresenceRule) (s : State) : (s.notePresence r).pending = s.pending := by unfold State.notePresence; split <;> rfl
@[simp] theorem State.notePresence_history (r : PresenceRule) (s : State) : (s.notePresence r).history = s.history := by unfold State.notePresence; split <;> rfl
@[simp] theorem State.notePresence_resets (r : PresenceRule) (s : State) : (s.notePresence r).resets = s.resets := by unfold State.notePresence; split <;> rfl

@[simp] theorem State.accept_params (s : State) : s.accept.params = s.params := by
  rw [State.accept, State.notePresence_params]
@[simp] theorem State.accept_fstate (s : State) : s.accept.fstate = s.fstate := by
  rw [State.accept, State.notePresence_fstate]
@[simp] theorem State.accept_cursor (s : State) : s.accept.cursor = s.cursor := by
  rw [State.accept, State.notePresence_cursor]
@[simp] theorem State.accept_acc (s : State) : s.accept.acc = s.acc := by
  rw [State.accept, State.notePresence_acc]
@[simp] theorem State.accept_hdr (s : State) : s.accept.hdr = s.hdr := by
  rw [State.accept, State.notePresence_hdr]
@[simp] theorem State.accept_idByte (s : State) : s.accept.idByte = s.idByte := by
  rw [State.accept, State.notePresence_idByte]
@[simp] theorem State.accept_len (s : State) : s.accept.len = s.len := by
  rw [State.accept, State.notePresence_len]
@[simp] theorem State.accept_didx (s : State) : s.accept.didx = s.didx := by
  rw [State.accept, State.notePresence_didx]
@[simp] theorem State.accept_data (s : State) : s.accept.data = s.data := by
  rw [State.accept, State.notePresence_data]
@[simp] theorem State.accept_ck (s : State) : s.accept.ck = s.ck := by
  rw [State.accept, State.notePresence_ck]
@[simp] theorem State.accept_ckidx (s : State) : s.accept.ckidx = s.ckidx := by
  rw [State.accept, State.notePresence_ckidx]
@[simp] theorem State.accept_valid (s : State) : s.accept.valid = true := by
  rw [State.accept, State.notePresence_valid]
@[simp] theorem State.accept_acceptCnt (s : State) : s.accept.acceptCnt = s.acceptCnt + 1 := by
  rw [State.accept, State.notePresence_acceptCnt]
@[simp] theorem State.accept_rejectCnt (s : State) : s.accept.rejectCnt = s.rejectCnt := by
  rw [State.accept, State.notePresence_rejectCnt]
@[simp] theorem State.accept_rxEn (s : State) : s.accept.rxEn = s.rxEn := by
  rw [State.accept, State.notePresence_rxEn]
@[simp] theorem State.accept_hsState (s : State) : s.accept.hsState = s.hsState := by
  rw [State.accept, State.notePresence_hsState]
@[simp] theorem State.accept_hsCount (s : State) : s.accept.hsCount = s.hsCount := by
  rw [State.accept, State.notePresence_hsCount]
@[simp] theorem State.accept_presence (s : State) : s.accept.presence = (s.presence || decide (s.params.presenceRule = .accepted)) := by
  rw [State.accept, State.notePresence_presence]
@[simp] theorem State.accept_cmdErr (s : State) : s.accept.cmdErr = s.cmdErr := by
  rw [State.accept, State.notePresence_cmdErr]
@[simp] theorem State.accept_unit (s : State) : s.accept.unit = s.unit := by
  rw [State.accept, State.notePresence_unit]
@[simp] theorem State.accept_ch (s : State) : s.accept.ch = s.ch := by
  rw [State.accept, State.notePresence_ch]
@[simp] theorem State.accept_out (s : State) : s.accept.out = s.out := by
  rw [State.accept, State.notePresence_out]
@[simp] theorem State.accept_pending (s : State) : s.accept.pending = s.pending := by
  rw [State.accept, State.notePresence_pending]
@[simp] theorem State.accept_history (s : State) : s.accept.history = s.history := by
  rw [State.accept, State.notePresence_history]
@[simp] theorem State.accept_resets (s : State) : s.accept.resets = s.resets := by
  rw [State.accept, State.notePresence_resets]

@[simp] theorem State.writeChannels_params (s : State) : s.writeChannels.params = s.params := by
  simp only [State.writeChannels, State.chWrite_params]
@[simp] theorem State.writeChannels_fstate (s : State) : s.writeChannels.fstate = s.fstate := by
  simp only [State.writeChannels, State.chWrite_fstate]
@[simp] theorem State.writeChannels_cursor (s : State) : s.writeChannels.cursor = s.cursor := by
  simp only [State.writeChannels, State.chWrite_cursor]
@[simp] theorem State.writeChannels_acc (s : State) : s.writeChannels.acc = s.acc := by
  simp only [State.writeChannels, State.chWrite_acc]
@[simp] theorem State.writeChannels_hdr (s : State) : s.writeChannels.hdr = s.hdr := by
  simp only [State.writeChannels, State.chWrite_hdr]
@[simp] theorem State.writeChannels_idByte (s : State) : s.writeChannels.idByte = s.idByte := by
  simp only [State.writeChannels, State.chWrite_idByte]
@[simp] theorem State.writeChannels_len (s : State) : s.writeChannels.len = s.len := by
  simp only [State.writeChannels, State.chWrite_len]
@[simp] theorem State.writeChannels_didx (s : State) : s.writeChannels.didx = s.didx := by
  simp only [State.writeChannels, State.chWrite_didx]
@[simp] theorem State.writeChannels_data (s : State) : s.writeChannels.data = s.data := by
  simp only [State.writeChannels, State.chWrite_data]
@[simp] theorem State.writeChannels_ck (s : State) : s.writeChannels.ck = s.ck := by
  simp only [State.writeChannels, State.chWrite_ck]
@[simp] theorem State.writeChannels_ckidx (s : State) : s.writeChannels.ckidx = s.ckidx := by
  simp only [State.writeChannels, State.chWrite_ckidx]
@[simp] theorem State.writeChannels_valid (s : State) : s.writeChannels.valid = s.valid := by
  simp only [State.writeChannels, State.chWrite_valid]
@[simp] theorem State.writeChannels_acceptCnt (s : State) : s.writeChannels.acceptCnt = s.acceptCnt := by
  simp only [State.writeChannels, State.chWrite_acceptCnt]
@[simp] theorem State.writeChannels_rejectCnt (s : State) : s.writeChannels.rejectCnt = s.rejectCnt := by
  simp only [State.writeChannels, State.chWrite_rejectCnt]
@[simp] theorem State.writeChannels_rxEn (s : State) : s.writeChannels.rxEn = s.rxEn := by
  simp only [State.writeChannels, State.chWrite_rxEn]
@[simp] theorem State.writeChannels_hsState (s : State) : s.writeChannels.hsState = s.hsState := by
  simp only [State.writeChannels, State.chWrite_hsState]
@[simp] theorem State.writeChannels_hsCount (s : State) : s.writeChannels.hsCount = s.hsCount := by
  simp only [State.writeChannels, State.chWrite_hsCount]
@[simp] theorem State.writeChannels_presence (s : State) : s.writeChannels.presence = s.presence := by
  simp only [State.writeChannels, State.chWrite_presence]
@[simp] theorem State.writeChannels_cmdErr (s : State) : s.writeChannels.cmdErr = s.cmdErr := by
  simp only [State.writeChannels, State.chWrite_cmdErr]
@[simp] theorem State.writeChannels_unit (s : State) : s.writeChannels.unit = s.unit := by
  simp only [State.writeChannels, State.chWrite_unit]
@[simp] theorem State.writeChannels_pending (s : State) : s.writeChannels.pending = s.pending := by
  simp only [State.writeChannels, State.chWrite_pending]
@[simp] theorem State.writeChannels_history (s : State) : s.writeChannels.history = s.history := by
  simp only [State.writeChannels, State.chWrite_history]
@[simp] theorem State.writeChannels_resets (s : State) : s.writeChannels.resets = s.resets := by
  simp only [State.writeChannels, State.chWrite_resets]

@[simp] theorem dispatch_params (s : State) : (dispatch s).params = s.params := by
  unfold dispatch; split <;> simp
@[simp] theorem dispatch_fstate (s : State) : (dispatch s).fstate = s.fstate := by
  unfold dispatch; split <;> simp
@[simp] theorem dispatch_cursor (s : State) : (dispatch s).cursor = s.cursor := by
  unfold dispatch; split <;> simp
@[simp] theorem dispatch_acc (s : State) : (dispatch s).acc = s.acc := by
  unfold dispatch; split <;> simp
@[simp] theorem dispatch_hdr (s : State) : (dispatch s).hdr = s.hdr := by
  unfold dispatch; split <;> simp
@[simp] theorem dispatch_idByte (s : State) : (dispatch s).idByte = s.idByte := by
  unfold dispatch; split <;> simp
@[simp] theorem dispatch_len (s : State) : (dispatch s).len = s.len := by
  unfold dispatch; split <;> simp
@[simp] theorem dispatch_didx (s : State) : (dispatch s).didx = s.didx := by
  unfold dispatch; split <;> simp
@[simp] theorem dispatch_data (s : State) : (dispatch s).data = s.data := by
  unfold dispatch; split <;> simp
@[simp] theorem dispatch_ck (s : State) : (dispatch s).ck = s.ck := by
  unfold dispatch; split <;> simp
@[simp] theorem dispatch_ckidx (s : State) : (dispatch s).ckidx = s.ckidx := by
  unfold dispatch; split <;> simp
@[simp] theorem dispatch_valid (s : State) : (dispatch s).valid = s.valid := by
  unfold dispatch; split <;> simp
@[simp] theorem dispatch_acceptCnt (s : State) : (dispatch s).acceptCnt = s.acceptCnt := by
  unfold dispatch; split <;> simp
@[simp] theorem dispatch_rejectCnt (s : State) : (dispatch s).rejectCnt = s.rejectCnt := by
  unfold dispatch; split <;> simp
@[simp] theorem dispatch_rxEn (s : State) : (dispatch s).rxEn = s.rxEn := by
  unfold dispatch; split <;> simp
@[simp] theorem dispatch_hsState (s : State) : (dispatch s).hsState = s.hsState := by
  unfold dispatch; split <;> simp
@[simp] theorem dispatch_hsCount (s : State) : (dispatch s).hsCount = s.hsCount := by
  unfold dispatch; split <;> simp
@[simp] theorem dispatch_cmdErr (s : State) : (dispatch s).cmdErr = s.cmdErr := by
  unfold dispatch; split <;> simp
@[simp] theorem dispatch_unit (s : State) : (dispatch s).unit = s.unit := by
  unfold dispatch; split <;> simp
@[simp] theorem dispatch_pending (s : State) : (dispatch s).pending = s.pending := by
  unfold dispatch; split <;> simp
@[simp] theorem dispatch_history (s : State) : (dispatch s).history = s.history := by
  unfold dispatch; split <;> simp
@[simp] theorem dispatch_resets (s : State) : (dispatch s).resets = s.resets := by
  unfold dispatch; split <;> simp

@[simp] theorem validate_params (s : State) : (validate s).params = s.params := by
  unfold validate; split <;> simp
@[simp] theorem validate_fstate (s : State) : (validate s).fstate = .awaitHeader := by
  unfold validate; split <;> simp
@[simp] theorem validate_cursor (s : State) : (validate s).cursor = s.cursor := by
  unfold validate; split <;> simp
@[simp] theorem validate_acc (s : State) : (validate s).acc = s.acc := by
  unfold validate; split <;> simp
@[simp] theorem validate_hdr (s : State) : (validate s).hdr = s.hdr := by
  unfold validate; split <;> simp
@[simp] theorem validate_idByte (s : State) : (validate s).idByte = s.idByte := by
  unfold validate; split <;> simp
@[simp] theorem validate_len (s : State) : (validate s).len = s.len := by
  unfold validate; split <;> simp
@[simp] theorem validate_didx (s : State) : (validate s).didx = s.didx := by
  unfold validate; split <;> simp
@[simp] theorem validate_data (s : State) : (validate s).data = s.data := by
  unfold validate; split <;> simp
@[simp] theorem validate_ck (s : State) : (validate s).ck = s.ck := by
  unfold validate; split <;> simp
@[simp] theorem validate_ckidx (s : State) : (validate s).ckidx = s.ckidx := by
  unfold validate; split <;> simp
@[simp] theorem validate_valid (s : State) : (validate s).valid = false := by
  unfold validate; split <;> simp
@[simp] theorem validate_rxEn (s : State) : (validate s).rxEn = s.rxEn := by
  unfold validate; split <;> simp
@[simp] theorem validate_hsState (s : State) : (validate s).hsState = s.hsState := by
  unfold validate; split <;> simp
@[simp] theorem validate_hsCount (s : State) : (validate s).hsCount = s.hsCount := by
  unfold validate; split <;> simp
@[simp] theorem validate_cmdErr (s : State) : (validate s).cmdErr = s.cmdErr := by
  unfold validate; split <;> simp
@[simp] theorem validate_unit (s : State) : (validate s).unit = s.unit := by
  unfold validate; split <;> simp
@[simp] theorem validate_pending (s : State) : (validate s).pending = s.pending := by
  unfold validate; split <;> simp
@[simp] theorem validate_history (s : State) : (validate s).history = s.history := by
  unfold validate; split <;> simp
@[simp] theorem validate_resets (s : State) : (validate s).resets = s.resets := by
  unfold validate; split <;> simp

end Sys2Proof.Machine
end

