-- ==== Sys2Proof/Laws/Framer.lean ====
section
/-! SUPPORT. What `Dispatch()`, `Validate()` and a framer step can do, said once. -/

namespace Sys2Proof.Machine

/-! ## Dispatch -/

theorem writeChannels_out (s : State) :
    s.writeChannels.out = s.out ++ [.chWrite 0 (s.axis 0), .chWrite 1 (s.axis 1), .chWrite 2 (s.axis 2),
      .chWrite 3 (s.axis 3)] := by
  simp only [State.writeChannels, State.chWrite_out, List.append_assoc, List.cons_append, List.nil_append]

theorem writeChannels_ch (s : State) :
    s.writeChannels.ch = (((s.ch.set 0 (s.axis 0)).set 1 (s.axis 1)).set 2 (s.axis 2)).set 3 (s.axis 3) := rfl

/-- Four writes fill the table, whatever it held. -/
theorem set_quartet (ch : Vector Half 4) (a b c d : Half) :
    (((ch.set 0 a).set 1 b).set 2 c).set 3 d = #v[a, b, c, d] := by
  ext i hi
  interval_cases i <;> simp

/-- A channel value depends on `DATA` and `OFFSET_K` only. -/
theorem axis_congr {s t : State} (i : Nat) (hk : t.params = s.params) (h0 : t.dataByte (2 * i) = s.dataByte (2 * i))
    (h1 : t.dataByte (2 * i + 1) = s.dataByte (2 * i + 1)) : t.axis i = s.axis i := by
  simp [State.axis, State.sample, hk, h0, h1]

/-- What a dispatch writes, with the channel values named by any function `f` equal to them. -/
theorem dispatch_of_actsOn {s : State} (f : Nat → Half) (h : s.actsOn = true) (hf : s.axis = f) :
    dispatch s = { s with
      out := s.out ++ [.chWrite 0 (f 0), .chWrite 1 (f 1), .chWrite 2 (f 2), .chWrite 3 (f 3)],
      ch := #v[f 0, f 1, f 2, f 3],
      presence := s.presence || decide (s.params.presenceRule = .channelWrite) } := by
  subst hf
  rw [dispatch, if_pos h, State.notePresence, ← set_quartet s.ch]
  cases hp : s.params.presenceRule with
  | accepted => simp [hp, State.writeChannels, State.chWrite, State.emit]
  | channelWrite => simp [hp, State.writeChannels, State.chWrite, State.emit]

theorem dispatch_of_not_actsOn {s : State} (h : s.actsOn = false) : dispatch s = s := by
  rw [dispatch, if_neg (by simp [h])]

/-! ## Validate -/

theorem accept_eq (s : State) :
    s.accept = { s with
      valid := true, acceptCnt := s.acceptCnt + 1,
      presence := s.presence || decide (s.params.presenceRule = .accepted) } := by
  unfold State.accept State.notePresence
  split <;> simp_all

theorem validate_of_mismatch {s : State} (h : s.crcMatches = false) :
    validate s = { s with rejectCnt := s.rejectCnt + 1, valid := false, fstate := .awaitHeader } := by
  simp [validate, h, State.reject, State.endValidation]

theorem validate_of_ignored {s : State} (h : s.crcMatches = true) (ha : s.actsOn = false) :
    validate s = { s with
      acceptCnt := s.acceptCnt + 1, valid := false, fstate := .awaitHeader,
      presence := s.presence || decide (s.params.presenceRule = .accepted) } := by
  have ha' : s.accept.actsOn = false := by simpa [State.actsOn] using ha
  rw [validate, if_pos h, dispatch_of_not_actsOn ha', accept_eq]
  rfl

/-- Accepting a packet leaves its channel values alone. -/
theorem axis_accept (s : State) : s.accept.axis = s.axis :=
  funext fun i => axis_congr i (by simp) (dataByte_congr (by simp) (by simp)) (dataByte_congr (by simp) (by simp))

/-- An accepted, dispatched packet is presence under either rule (R203, R231). -/
theorem presence_of_dispatched (s : State) :
    (s.accept.presence || decide (s.accept.params.presenceRule = .channelWrite)) = true := by
  rw [State.accept_presence, State.accept_params]
  cases s.params.presenceRule <;> simp

theorem validate_of_dispatched {s : State} (h : s.crcMatches = true) (ha : s.actsOn = true) :
    validate s = { s with
      acceptCnt := s.acceptCnt + 1, valid := false, fstate := .awaitHeader, presence := true,
      out := s.out ++ [.chWrite 0 (s.axis 0), .chWrite 1 (s.axis 1), .chWrite 2 (s.axis 2), .chWrite 3 (s.axis 3)],
      ch := #v[s.axis 0, s.axis 1, s.axis 2, s.axis 3] } := by
  have ha' : s.accept.actsOn = true := by simpa [State.actsOn] using ha
  rw [validate, if_pos h, dispatch_of_actsOn s.axis ha' (axis_accept s), presence_of_dispatched, accept_eq]
  rfl

/-! ## The framer step -/

/-- The state in which `Validate()` runs: the second checksum byte `b` is in CK (R167). -/
def State.checksumComplete (s : State) (b : Byte) : State :=
  { s with ck := s.ck ||| b.setWidth 16 <<< (8 * s.ckidx.toNat), ckidx := 0, fstate := .validate }

/-- Everything a framer step that completes can do (R161 to R168). -/
inductive FrameEffect (b : Byte) (s : State) : State → Prop where
  | marker : s.fstate = .awaitHeader → b = s.params.headerMarker →
      FrameEffect b s { s with hdr := b, fstate := .awaitId }
  | noise : s.fstate = .awaitHeader → b ≠ s.params.headerMarker → FrameEffect b s s
  | ident : s.fstate = .awaitId → FrameEffect b s { s with idByte := b, fstate := .awaitLength }
  | emptyLength : s.fstate = .awaitLength → b = 0 →
      FrameEffect b s { s with len := b, didx := 0, ck := 0, ckidx := 0, fstate := .awaitChecksum }
  | length : s.fstate = .awaitLength → b ≠ 0 →
      FrameEffect b s { s with len := b, didx := 0, fstate := .awaitData }
  | payload : s.fstate = .awaitData → s.didx.toNat < Config.payloadCap → s.didx + 1 ≠ s.len →
      FrameEffect b s { s with data := storeCell s.data s.didx.toNat b, didx := s.didx + 1 }
  | lastPayload : s.fstate = .awaitData → s.didx.toNat < Config.payloadCap → s.didx + 1 = s.len →
      FrameEffect b s { s with
        data := storeCell s.data s.didx.toNat b, didx := s.didx + 1, fstate := .awaitTrailer }
  | trailer : s.fstate = .awaitTrailer →
      FrameEffect b s { s with ck := b.setWidth 16, ckidx := 1, fstate := .awaitChecksum }
  | firstChecksum : s.fstate = .awaitChecksum → s.ckidx = 0 →
      FrameEffect b s { s with ck := s.ck ||| b.setWidth 16, ckidx := 1 }
  | secondChecksum : s.fstate = .awaitChecksum → s.ckidx = 1 →
      FrameEffect b s (validate (s.checksumComplete b))

theorem ckidx_eq_one {s : State} (h : ¬ s.ckidx = 0) : s.ckidx = 1 := by
  have := s.ckidx.isLt
  have h0 : s.ckidx.toNat ≠ 0 := fun e => h (BitVec.eq_of_toNat_eq e)
  exact BitVec.eq_of_toNat_eq (by simp; omega)

theorem frameStep_effect {b : Byte} {s t : State} (h : frameStep b s = .next t) : FrameEffect b s t := by
  unfold frameStep at h
  split at h
  case h_1 hf =>
    cases h
    unfold frameHeader
    split
    · exact .marker hf ‹_›
    · exact .noise hf ‹_›
  case h_2 hf => cases h; exact .ident hf
  case h_3 hf =>
    cases h
    simp only [frameLength]
    split
    · exact .emptyLength hf ‹_›
    · exact .length hf ‹_›
  case h_4 hf =>
    unfold frameData at h
    split at h
    · cases h
    · obtain ⟨hi, rfl⟩ := storeByte_eq_some ‹_›
      cases h
      simp only
      split
      · exact .lastPayload hf hi ‹_›
      · exact .payload hf hi ‹_›
  case h_5 hf =>
    cases h
    have : frameTrailer b s = { s with ck := b.setWidth 16, ckidx := 1, fstate := .awaitChecksum } := by
      simp [frameTrailer, frameChecksum, State.startChecksum]
    rw [this]
    exact .trailer hf
  case h_6 hf =>
    cases h
    simp only [frameChecksum]
    split
    · rename_i hk
      have : s.ck ||| b.setWidth 16 <<< (8 * s.ckidx.toNat) = s.ck ||| b.setWidth 16 := by simp [hk]
      rw [this]
      exact .firstChecksum hf hk
    · exact .secondChecksum hf (ckidx_eq_one ‹_›)
  case h_7 => cases h

/-- The second checksum byte runs `Validate()` on the completed checksum (R167, R168). -/
theorem frameStep_secondChecksum {s : State} (b : Byte) (h : s.fstate = .awaitChecksum) (hk : s.ckidx = 1) :
    frameStep b s = .next (validate (s.checksumComplete b)) := by
  simp [frameStep, h, frameChecksum, hk, State.checksumComplete]

/-- BYTE on a core that receives bytes is the framer step (R160). -/
theorem execByte_of_enabled {s : State} (b : Byte) (hf : s.params.frontEnd = .byte) (hr : s.rxEn = true) :
    execByte b s = frameStep b s := by
  simp [execByte, hf, hr]

/-- A framer step stops only where the payload index is past the buffer or Validate is held. -/
theorem frameStep_completes (b : Byte) (s : State) (hv : s.fstate ≠ .validate)
    (hd : s.fstate = .awaitData → s.didx.toNat < Config.payloadCap) : ∃ t, frameStep b s = .next t := by
  unfold frameStep
  split
  case h_4 hf => simp [frameData, storeByte_of_lt s _ b (hd hf)]
  case h_7 hf => exact absurd hf hv
  all_goals exact ⟨_, rfl⟩

end Sys2Proof.Machine
end

