-- ==== Sys2Proof/Laws/PerInstr.lean ====
section
/-! SUPPORT. A law per command: its word carries the opcode that spec/opcode_table.json gives its row. -/

namespace Sys2Proof

/-- The opcode of each row of the table (R104). -/
def Laws.tableOpcode : Instr → Byte
  | .nop => 0x00
  | .burst => 0x01
  | .pulse _ _ => 0x02
  | .byte _ => 0x03
  | .hsstart => 0x04
  | .hstick => 0x05
  | .rd _ => 0x06
  | .wr _ _ => 0x07

/-- The word of a command has its row's opcode in bits [39:32] (R101, R104). -/
def Laws.OpcodeField.Statement (i : Instr) : Prop := (encode i).extractLsb' 32 8 = Laws.tableOpcode i

theorem Laws.OpcodeField.nop : Laws.OpcodeField.Statement .nop := opField_packWord _ _ _

theorem Laws.OpcodeField.burst : Laws.OpcodeField.Statement .burst := opField_packWord _ _ _

theorem Laws.OpcodeField.pulse (low high : Half) : Laws.OpcodeField.Statement (.pulse low high) :=
  opField_packWord _ _ _

theorem Laws.OpcodeField.byte (b : Byte) : Laws.OpcodeField.Statement (.byte b) := opField_packWord _ _ _

theorem Laws.OpcodeField.hsstart : Laws.OpcodeField.Statement .hsstart := opField_packWord _ _ _

theorem Laws.OpcodeField.hstick : Laws.OpcodeField.Statement .hstick := opField_packWord _ _ _

theorem Laws.OpcodeField.rd (addr : Half) : Laws.OpcodeField.Statement (.rd addr) := opField_packWord _ _ _

theorem Laws.OpcodeField.wr (addr data : Half) : Laws.OpcodeField.Statement (.wr addr data) := opField_packWord _ _ _

end Sys2Proof
end

