-- ==== Sys2Proof/Laws/Pulse.lean ====
section
/-! SUPPORT. The arithmetic of one pulse pair. -/

namespace Sys2Proof.Machine

/-- The mask's bit `j` is set exactly in the run (R133); bits from 8 on are dropped (R134). -/
theorem onesMask_getLsbD (h c j : Nat) :
    (onesMask h c).getLsbD j = (decide (j < 8) && (decide (c ≤ j) && decide (j < c + h))) := by
  simp only [onesMask, BitVec.getLsbD_ofNat, Nat.testBit_shiftLeft, Nat.testBit_two_pow_sub_one]
  by_cases hc : c ≤ j
  · have : (j - c < h) = (j < c + h) := by simp; omega
    simp [hc, this]
  · simp [hc]

@[simp] theorem onesMask_zero (c : Nat) : onesMask 0 c = 0 := by simp [onesMask]

/-- For a legal unit a duration is divided rounding down (R132). -/
theorem durationUnits_of_ne (d u : Half) (hu : u ≠ 0) : durationUnits d u = d.toNat / u.toNat := by
  rw [durationUnits, if_neg hu]

/-- A byte is below `2^c` exactly when its bits from `c` on are 0. -/
theorem toNat_lt_two_pow_iff (a : Byte) (c : Nat) : a.toNat < 2 ^ c ↔ ∀ j, c ≤ j → a.getLsbD j = false := by
  constructor
  · intro h j hj
    rw [← BitVec.testBit_toNat]
    exact Nat.testBit_lt_two_pow (lt_of_lt_of_le h (Nat.pow_le_pow_right (by decide) hj))
  · intro h
    refine Nat.lt_pow_two_of_testBit _ fun j hj => ?_
    rw [BitVec.testBit_toNat]
    exact h j hj

/-- The bits of a pulse stay below the advanced cursor (R35). -/
theorem acc_or_onesMask_lt (a : Byte) (c0 c h : Nat) (ha : a.toNat < 2 ^ c0) (hc : c0 ≤ c) :
    (a ||| onesMask h c).toNat < 2 ^ (c + h) := by
  rw [toNat_lt_two_pow_iff] at ha ⊢
  intro j hj
  simp only [BitVec.getLsbD_or, onesMask_getLsbD, ha j (by omega), Bool.false_or]
  have : ¬ j < c + h := by omega
  simp [this]

/-- A PULSE that leaves the cursor below 8 (R131). -/
theorem execPulse_of_short {low high : Half} {s : State} (hf : s.params.frontEnd = .pulse) (hr : s.rxEn = true)
    (hc : s.cursor.toNat + durationUnits low s.unit + durationUnits high s.unit < 8) :
    execPulse low high s = .next { s with
      acc := s.acc ||| onesMask (durationUnits high s.unit) (s.cursor.toNat + durationUnits low s.unit),
      cursor := BitVec.ofNat 3 (s.cursor.toNat + durationUnits low s.unit + durationUnits high s.unit) } := by
  rw [execPulse, hf]
  simp only [if_pos hr, recoverPulse]
  rw [if_neg (by omega)]

/-- A PULSE that takes the cursor to 8 or more gives its byte to the framer (R135). -/
theorem execPulse_of_long {low high : Half} {s : State} (hf : s.params.frontEnd = .pulse) (hr : s.rxEn = true)
    (hc : 8 ≤ s.cursor.toNat + durationUnits low s.unit + durationUnits high s.unit) :
    execPulse low high s =
      frameStep (s.acc ||| onesMask (durationUnits high s.unit) (s.cursor.toNat + durationUnits low s.unit))
        { s with
          acc := 0, cursor := 0,
          out := s.out ++ [.byteOut (s.acc |||
            onesMask (durationUnits high s.unit) (s.cursor.toNat + durationUnits low s.unit))] } := by
  rw [execPulse, hf]
  simp only [if_pos hr, recoverPulse]
  rw [if_pos hc]
  rfl

end Sys2Proof.Machine
end

