-- ==== Sys2Proof/Laws/Register.lean ====
section
/-! SUPPORT. Which address a register has (R45). -/

namespace Sys2Proof.Machine

/-- The address of a mapped register (R45). -/
def Reg.addr : Reg → Half
  | .ctrl => 0x0000
  | .unit => 0x0001
  | .status => 0x0002
  | .accum => 0x0003
  | .acceptCnt => 0x0004
  | .rejectCnt => 0x0005
  | .hsCount => 0x0006
  | .pkt0 => 0x0007
  | .pkt1 => 0x0008
  | .params => 0x0009
  | .params2 => 0x000A

@[simp] theorem regAt_addr (r : Reg) : regAt r.addr = some r := by cases r <;> rfl

/-- Each register answers at one address. -/
theorem regAt_eq_some {a : Half} {r : Reg} : regAt a = some r ↔ a = r.addr := by
  constructor
  · intro h
    simp only [regAt] at h
    split at h <;> cases h <;> exact BitVec.eq_of_toNat_eq ‹_›
  · rintro rfl
    exact regAt_addr r

/-- The unmapped addresses are those from 0x000B on (R45). -/
theorem regAt_eq_none {a : Half} : regAt a = none ↔ 0x000B ≤ a.toNat := by
  constructor
  · intro h
    by_contra hc
    have : a.toNat < 11 := by omega
    simp only [regAt] at h
    interval_cases a.toNat <;> cases h
  · intro h
    simp only [regAt]
    split <;> first | rfl | omega

end Sys2Proof.Machine
end

