-- ==== Sys2Proof/Laws/Step.lean ====
section
/-! SUPPORT. What a command and a step can do, said once. -/

namespace Sys2Proof.Machine

/-! ## The handshake's tick -/

theorem pollTick_of_presence {s : State} (h : s.presence = true) :
    s.pollTick = { s with
      hsCount := s.hsCount + 1, hsState := .success, out := s.out ++ [.hsResult true] } := by
  simp [State.pollTick, h, State.pollSucceeds, State.emit]

theorem pollTick_of_bound {s : State} (h : s.presence = false) (hb : s.hsCount + 1 = s.params.pollBound) :
    s.pollTick = { s with
      hsCount := s.hsCount + 1, hsState := .failed, rxEn := false,
      out := s.out ++ [.rxRelease, .hsResult false] } := by
  simp only [State.pollTick, h, if_pos hb, State.pollFails, State.emit]
  simp

theorem pollTick_of_waiting {s : State} (h : s.presence = false) (hb : s.hsCount + 1 ≠ s.params.pollBound) :
    s.pollTick = { s with hsCount := s.hsCount + 1 } := by
  simp only [State.pollTick, h, if_neg hb]
  simp

/-! ## One command -/

/-- The state in which the framer takes the byte `bits` that a PULSE emits (R131). -/
def State.pulseEmitted (s : State) (bits : Byte) : State :=
  { s with acc := 0, cursor := 0, out := s.out ++ [.byteOut bits] }

/-- Everything a command that completes can do. -/
inductive ExecEffect (s : State) : Instr → State → Prop where
  | nop : ExecEffect s .nop s
  | mismatch (i : Instr) : i.availableIn s.params.frontEnd = false → ExecEffect s i s.raiseIllegalCommand
  | wrIllegal (addr data : Half) : regAt addr ≠ some .ctrl → regAt addr ≠ some .unit →
      ExecEffect s (.wr addr data) s.raiseIllegalCommand
  | burst : s.params.frontEnd = .pulse → ExecEffect s .burst s.clearAccumulator
  | pulseDropped (low high : Half) : s.params.frontEnd = .pulse → s.rxEn = false →
      ExecEffect s (.pulse low high) s
  | pulseShort (low high : Half) : s.params.frontEnd = .pulse → s.rxEn = true →
      s.cursor.toNat + durationUnits low s.unit + durationUnits high s.unit < 8 →
      ExecEffect s (.pulse low high) { s with
        acc := s.acc ||| onesMask (durationUnits high s.unit) (s.cursor.toNat + durationUnits low s.unit),
        cursor := BitVec.ofNat 3 (s.cursor.toNat + durationUnits low s.unit + durationUnits high s.unit) }
  | pulseByte (low high : Half) (t : State) : s.params.frontEnd = .pulse → s.rxEn = true →
      8 ≤ s.cursor.toNat + durationUnits low s.unit + durationUnits high s.unit →
      FrameEffect
        (s.acc ||| onesMask (durationUnits high s.unit) (s.cursor.toNat + durationUnits low s.unit))
        (s.pulseEmitted
          (s.acc ||| onesMask (durationUnits high s.unit) (s.cursor.toNat + durationUnits low s.unit))) t →
      ExecEffect s (.pulse low high) t
  | byteDropped (b : Byte) : s.params.frontEnd = .byte → s.rxEn = false → ExecEffect s (.byte b) s
  | byteFramed (b : Byte) (t : State) : s.params.frontEnd = .byte → s.rxEn = true → FrameEffect b s t →
      ExecEffect s (.byte b) t
  | hsstart : ExecEffect s .hsstart (s.openSession.emit (.txQuery s.params.queryPacket))
  | hstickInert : s.hsState ≠ .polling → ExecEffect s .hstick s
  | hstickPolls : s.hsState = .polling → ExecEffect s .hstick s.pollTick
  | rd (addr : Half) (r : Reg) : regAt addr = some r →
      ExecEffect s (.rd addr) (s.emit (.rsp (s.readReg r)))
  | rdUnmapped (addr : Half) : regAt addr = none →
      ExecEffect s (.rd addr) (s.raiseIllegalCommand.emit (.rsp 0))
  | wrCtrl (addr data : Half) : regAt addr = some .ctrl →
      ExecEffect s (.wr addr data) { s with rxEn := data.getLsbD 0 }
  | wrUnitZero (addr : Half) : regAt addr = some .unit → ExecEffect s (.wr addr 0) s
  | wrUnit (addr data : Half) : regAt addr = some .unit → data ≠ 0 →
      ExecEffect s (.wr addr data) { s with unit := data }

theorem exec_effect {i : Instr} {s t : State} (h : exec i s = .next t) : ExecEffect s i t := by
  cases i with
  | nop => cases h; exact .nop
  | burst =>
    simp only [exec, execBurst] at h
    split at h <;> cases h
    · exact .mismatch _ (by simp [*, Instr.availableIn])
    · exact .burst ‹_›
  | pulse low high =>
    simp only [exec, execPulse] at h
    split at h
    · cases h; exact .mismatch _ (by simp [*, Instr.availableIn])
    · split at h
      · simp only [recoverPulse] at h
        split at h
        · exact .pulseByte low high t ‹_› ‹_› ‹_› (frameStep_effect h)
        · cases h; exact .pulseShort low high ‹_› ‹_› (by omega)
      · cases h; exact .pulseDropped low high ‹_› (by simp_all)
  | byte b =>
    simp only [exec, execByte] at h
    split at h
    · cases h; exact .mismatch _ (by simp [*, Instr.availableIn])
    · split at h
      · exact .byteFramed b t ‹_› ‹_› (frameStep_effect h)
      · cases h; exact .byteDropped b ‹_› (by simp_all)
  | hsstart => cases h; exact .hsstart
  | hstick =>
    simp only [exec, execHstick] at h
    split at h <;> cases h
    · exact .hstickPolls ‹_›
    · exact .hstickInert ‹_›
  | rd addr =>
    simp only [exec, execRd] at h
    split at h <;> cases h
    · exact .rd addr _ ‹_›
    · exact .rdUnmapped addr ‹_›
  | wr addr data =>
    simp only [exec, execWr] at h
    split at h
    · rename_i r hr
      cases h
      cases r <;> simp only [State.writeReg] <;> try exact .wrIllegal _ _ (by simp [hr]) (by simp [hr])
      · exact .wrCtrl addr data hr
      · split
        · subst_vars; exact .wrUnitZero addr hr
        · exact .wrUnit addr data hr ‹_›
    · cases h; exact .wrIllegal _ _ (by simp [*]) (by simp [*])

/-- A command stops only where its framer step does (R362). -/
theorem exec_completes (i : Instr) (s : State) (hv : s.fstate ≠ .validate)
    (hd : s.fstate = .awaitData → s.didx.toNat < Config.payloadCap) : ∃ t, exec i s = .next t := by
  cases i with
  | pulse low high =>
    simp only [exec, execPulse]
    split
    · exact ⟨_, rfl⟩
    · split
      · simp only [recoverPulse]
        split
        · exact frameStep_completes _ _ hv hd
        · exact ⟨_, rfl⟩
      · exact ⟨_, rfl⟩
  | byte b =>
    simp only [exec, execByte]
    split
    · exact ⟨_, rfl⟩
    · split
      · exact frameStep_completes _ _ hv hd
      · exact ⟨_, rfl⟩
  | burst => simp only [exec, execBurst]; split <;> exact ⟨_, rfl⟩
  | rd addr => simp only [exec, execRd]; split <;> exact ⟨_, rfl⟩
  | wr addr data => simp only [exec, execWr]; split <;> exact ⟨_, rfl⟩
  | nop => exact ⟨_, rfl⟩
  | hsstart => exact ⟨_, rfl⟩
  | hstick => exact ⟨_, rfl⟩

/-! ## One step -/

/-- Everything a step that completes can do. -/
inductive StepEffect (s : State) : State → Prop where
  | idle : s.pending = [] → StepEffect s s
  | reset (rest : List PortInput) : s.pending = .reset :: rest →
      StepEffect s { s with pending := rest }.portReset
  | malformed (w : CommandWord) (e : DecodeError) (rest : List PortInput) : s.pending = .command w :: rest →
      decode w = .error e → StepEffect s { s with pending := rest, out := [], cmdErr := true }
  | command (w : CommandWord) (i : Instr) (rest : List PortInput) (t : State) : s.pending = .command w :: rest →
      decode w = .ok i → ExecEffect (s.beginCommand rest) i t → StepEffect s t.recordEvents

theorem step_effect {s t : State} (h : step s = .next t) : s.params.legal = true ∧ StepEffect s t := by
  unfold step at h
  split at h
  · refine ⟨‹_›, ?_⟩
    split at h
    · cases h; exact .idle ‹_›
    · cases h; exact .reset _ ‹_›
    · rename_i w rest hp
      simp only [takeCommand, runWord] at h
      cases hd : decode w with
      | ok i =>
        simp only [hd] at h
        cases hx : exec i (s.beginCommand rest) with
        | next u =>
          simp only [hx, endCommand] at h
          cases h
          exact .command w i rest u hp hd (exec_effect hx)
        | fault f => simp [hx, endCommand] at h
        | refused r => simp [hx, endCommand] at h
      | error e =>
        simp only [hd, endCommand] at h
        cases h
        have : (s.beginCommand rest).raiseIllegalCommand.recordEvents =
            { s with pending := rest, out := [], cmdErr := true } := by
          simp [State.recordEvents, State.raiseIllegalCommand, State.beginCommand]
        rw [this]
        exact .malformed w e rest hp hd
  · cases h

end Sys2Proof.Machine
end

