-- ==== Sys2Proof/Tests/Slice0.lean ====
section
/-! SUPPORT. The model's own tests. Expected values are the spec's (95_test_vectors.md and the examples of the rules), or
are worked out by hand from the rules. Then, for every statement with hypotheses, a witness that meets them. -/

namespace Sys2Proof.Tests

open Sys2Proof Sys2Proof.Machine

/-! ## Helpers -/

/-- "Running" (95_test_vectors.md, conventions), front end PULSE. -/
def pulseCore : State := { State.reset with rxEn := true }

/-- "Running", front end BYTE. -/
def byteCore : State := { State.resetOf Config.exampleByteParams with rxEn := true }

/-- The outcome is a next state that passes the check. -/
def nextIs (r : Host.Outcome State Fault Refusal) (check : State → Bool) : Bool :=
  match r with
  | .next t => check t
  | .fault _ => false
  | .refused _ => false

/-- The outcome is a fault. -/
def faults (r : Host.Outcome State Fault Refusal) : Bool :=
  match r with
  | .next _ => false
  | .fault _ => true
  | .refused _ => false

/-- The outcome is this refusal. -/
def refusedAs (q : Refusal) (r : Host.Outcome State Fault Refusal) : Bool :=
  match r with
  | .next _ => false
  | .fault _ => false
  | .refused q' => decide (q' = q)

/-- The words of a text; none where it does not assemble. -/
def wordsOf (text : String) : Option (List CommandWord) :=
  match assemble text.toList with
  | .ok ws => some ws
  | .error _ => none

/-- The command a word decodes to; none where it is refused. -/
def commandOf (w : CommandWord) : Option Instr :=
  match decode w with
  | .ok i => some i
  | .error _ => none

/-- The payload of `PCH`: the samples 100, 200, 300, 400. -/
def samples : List Byte := [0x64, 0x00, 0xC8, 0x00, 0x2C, 0x01, 0x90, 0x01]

/-- The same, as the buffer that holds it. -/
def samplesStored : List Host.Cell :=
  [(0, 0x64), (1, 0x00), (2, 0xC8), (3, 0x00), (4, 0x2C), (5, 0x01), (6, 0x90), (7, 0x01)]

/-- A core that has taken all of `PCH` but its last byte, 0x60, under front end BYTE. -/
def almostPch : State :=
  { byteCore with
    fstate := .awaitChecksum, hdr := 0x55, idByte := 0x1C, len := 8, didx := 8, data := samplesStored,
    ck := 0x00DF, ckidx := 1 }

/-- A core that has taken all of `PZ` but its last byte, 0x3F. -/
def almostPz : State :=
  { byteCore with
    fstate := .awaitChecksum, hdr := 0x55, idByte := 0x1C, len := 0, ck := 0x00BC, ckidx := 1 }

/-- A core that has taken all of `PU` but its last byte, 0x99. -/
def almostPu : State :=
  { byteCore with
    fstate := .awaitChecksum, hdr := 0x55, idByte := 0x2C, len := 1, didx := 1, data := [(0, 0xAA)],
    ck := 0x0088, ckidx := 1 }

/-! ## Well-formedness: each check refuses an ill-formed term -/

theorem test_example_configuration_legal : Config.exampleParams.legal = true := by decide

theorem test_dirShift_zero_illegal :
    Params.dirShiftInRange { Config.exampleParams with dirShift := 0 } = false ∧
    Params.legal { Config.exampleParams with dirShift := 0 } = false := by decide

theorem test_pollBound_zero_illegal :
    Params.pollBoundInRange { Config.exampleParams with pollBound := 0 } = false ∧
    Params.legal { Config.exampleParams with pollBound := 0 } = false := by decide

theorem test_dirToHost_too_wide_illegal :
    Params.dirFits { Config.exampleParams with dirToHost := 16 } = false ∧
    Params.legal { Config.exampleParams with dirToHost := 16 } = false := by decide

theorem test_kind_too_wide_illegal :
    Params.kindFits { Config.exampleParams with kindChannelValues := 16 } = false ∧
    Params.legal { Config.exampleParams with kindChannelValues := 16 } = false := by decide

theorem test_front_end_availability :
    Instr.burst.availableIn .byte = false ∧ (Instr.pulse 1 1).availableIn .byte = false ∧
    (Instr.byte 1).availableIn .pulse = false := by decide

/-- R10's query packet has the wire form; with one bit changed it has not. -/
theorem test_queryPacket_form :
    queryPacketWellFormed Config.exampleParams = true ∧
    queryPacketWellFormed { Config.exampleParams with queryPacket := [0x55, 0x01, 0x00, 0x93, 0x4B] } = false := by
  decide +kernel

/-! ## Decoding: words written out from R101 to R104 -/

theorem test_decode_nop : commandOf 0x0000000000 = some .nop := by decide
theorem test_decode_burst : commandOf 0x0100000000 = some .burst := by decide
theorem test_decode_pulse : commandOf 0x0200560081 = some (.pulse 86 129) := by decide
theorem test_decode_byte : commandOf 0x0300000055 = some (.byte 0x55) := by decide
theorem test_decode_hsstart : commandOf 0x0400000000 = some .hsstart := by decide
theorem test_decode_hstick : commandOf 0x0500000000 = some .hstick := by decide
theorem test_decode_rd : commandOf 0x06000A0000 = some (.rd 0x000A) := by decide
theorem test_decode_wr : commandOf 0x0700010028 = some (.wr 0x0001 40) := by decide

/-- 95_test_vectors.md, L2.1: reserved opcodes and must-be-zero fields. -/
theorem test_decode_refuses :
    [0x0800000000, 0xFF00000000, 0x0000010000, 0x0100000001, 0x0300000100, 0x0300010055, 0x0480000000, 0x0500008000,
     0x0600000001].map commandOf = List.replicate 9 none := by decide

/-- The opcode is checked before the must-be-zero fields (R108). -/
theorem test_decode_order : decode 0x0800000001 = .error (.reservedOpcode 8) := by rfl

theorem test_decodeTableWord : decodeTableWord 40 0x0200560081 = some (.pulse 86 129) := by decide

theorem test_step_runs_fetched_word :
    nextIs (step (pulseCore.withFetchWord 40 0x0200560081)) (fun t => t.acc == 0x1C && t.cursor == 5) = true := by
  decide

/-! ## Commands, one step each -/

/-- R290. -/
theorem test_nop_keeps_state : nextIs (exec .nop almostPch) (fun t => decide (t = almostPch)) = true := by
  decide +kernel

/-- R130's example. -/
theorem test_burst_clears :
    nextIs (exec .burst { pulseCore with acc := 0x1C, cursor := 5 })
      (fun t => t.acc == 0 && t.cursor == 0 && t.out == []) = true := by decide

/-- L1.1: 86 ticks are two zeros, 129 ticks three ones. -/
theorem test_pulse_accumulates :
    nextIs (exec (.pulse 86 129) pulseCore) (fun t => t.acc == 0x1C && t.cursor == 5 && t.out == []) = true := by
  decide

/-- R134, R135: a high of 65535 ticks from cursor 0 emits 0xFF, and nothing is carried over. -/
theorem test_pulse_overlong_run :
    nextIs (exec (.pulse 0 65535) pulseCore)
      (fun t => t.acc == 0 && t.cursor == 0 && t.out == [.byteOut 0xFF]) = true := by decide +kernel

/-- R160's example. -/
theorem test_byte_header :
    nextIs (exec (.byte 0x55) byteCore) (fun t => t.hdr == 0x55 && t.fstate == .awaitId) = true := by decide

/-- L1.4: the last byte of `PCH` writes the four channels. -/
theorem test_byte_dispatches :
    nextIs (exec (.byte 0x60) almostPch) (fun t =>
      t.out == [.chWrite 0 1948, .chWrite 1 1848, .chWrite 2 1748, .chWrite 3 1648] &&
      t.ch == #v[1948, 1848, 1748, 1648] && t.acceptCnt == 1 && t.presence && t.pkt0Word == 0x08081C55 &&
      t.pkt1Word == 0x000060DF) = true := by decide +kernel

/-- L1.7: the query packet is asked for. -/
theorem test_hsstart_queries :
    nextIs (exec .hsstart State.reset) (fun t =>
      t.out == [.txQuery [0x55, 0x01, 0x00, 0x93, 0x4A]] && t.rxEn && t.hsState == .polling) = true := by decide

/-- HSSTART clears a packet in progress but not UNIT or CMD_ERR (R261, R54). -/
theorem test_hsstart_keeps_unit_and_error :
    nextIs (exec .hsstart { almostPch with unit := 40, cmdErr := true, acceptCnt := 7 }) (fun t =>
      t.unit == 40 && t.cmdErr && t.acceptCnt == 0 && t.fstate == .awaitHeader && t.ck == 0 && t.hdr == 0) = true := by
  decide

/-- R263's example: the failing tick, its events in order. -/
theorem test_hstick_fails_at_bound :
    nextIs (exec .hstick { byteCore with hsState := .polling, hsCount := 69 }) (fun t =>
      t.hsCount == 70 && t.hsState == .failed && !t.rxEn && t.out == [.rxRelease, .hsResult false]) = true := by decide

/-- R263: success is checked before the bound. -/
theorem test_hstick_success_before_bound :
    nextIs (exec .hstick { byteCore with hsState := .polling, hsCount := 69, presence := true }) (fun t =>
      t.hsState == .success && t.rxEn && t.out == [.hsResult true]) = true := by decide

/-- R50 in the configuration of R10: 0x55, shift 4, front end PULSE, ACCEPTED, bound 70. -/
theorem test_rd_params :
    nextIs (exec (.rd 0x0009) State.reset) (fun t => t.out == [.rsp 0x00460455]) = true ∧
    nextIs (exec (.rd 0x000A) State.reset) (fun t => t.out == [.rsp 0x0C010800]) = true := by decide

/-- R293: an unmapped address answers 0 and sets CMD_ERR. -/
theorem test_rd_unmapped :
    nextIs (exec (.rd 0x000B) State.reset) (fun t => t.out == [.rsp 0] && t.cmdErr) = true := by decide

/-- R295: the reserved bits of CTRL are ignored. -/
theorem test_wr_ctrl :
    nextIs (exec (.wr 0x0000 0xFFFF) State.reset) (fun t => t.rxEn && !t.cmdErr) = true ∧
    nextIs (exec (.wr 0x0000 0xFFFE) pulseCore) (fun t => !t.rxEn && t.out == []) = true := by decide

/-- R296: UNIT takes 40 and ignores 0. -/
theorem test_wr_unit :
    nextIs (exec (.wr 0x0001 40) State.reset) (fun t => t.unit == 40) = true ∧
    nextIs (exec (.wr 0x0001 0) State.reset) (fun t => t.unit == 43 && !t.cmdErr) = true := by decide

/-- R233's corner cases with K = 2048. -/
theorem test_channelValue_wraps :
    channelValue 2048 (-32768) = 0x8800 ∧ channelValue 2048 32767 = 0x8801 ∧ channelValue 2048 0 = 0x0800 := by decide

/-! ## The assembler -/

/-- 95_test_vectors.md's programs use these forms; the words are R104's. -/
theorem test_assembler :
    wordsOf "RXON ; on\n\n.unit 43\nPULSE 86, 0x81\nPBYTE 0x1C\nRD ACCEPT_CNT\nWR 1, 40\nSEND 0x55 1\nWAIT 2" =
      some [0x0700000001, 0x0200560081, 0x0200560081, 0x0200810000, 0x0600040000, 0x0700010028, 0x0300000055,
        0x0300000001, 0x0500000000, 0x0500000000] := by decide +kernel

/-- R111: an operand out of range is an error. -/
theorem test_assembler_refuses : wordsOf "PULSE 65536, 0" = none ∧ wordsOf "BYTE 256" = none := by decide

/-! ## Witnesses: for each statement with hypotheses, states and operands that meet them -/

theorem witness_MalformedWordsRaiseIllegal :
    (8 ≤ ((0x0800000000 : CommandWord).extractLsb' 32 8).toNat) ∧
    (((0x0000000001 : CommandWord).extractLsb' 32 8).toNat ∈ [0, 1, 4, 5] ∧
      (0x0000000001 : CommandWord).extractLsb' 0 32 ≠ 0) ∧
    (((0x0580000000 : CommandWord).extractLsb' 32 8).toNat ∈ [0, 1, 4, 5] ∧
      (0x0580000000 : CommandWord).extractLsb' 0 32 ≠ 0) ∧
    (((0x0300000100 : CommandWord).extractLsb' 32 8).toNat = 3 ∧ (0x0300000100 : CommandWord).extractLsb' 8 24 ≠ 0) ∧
    (((0x0600008000 : CommandWord).extractLsb' 32 8).toNat = 6 ∧ (0x0600008000 : CommandWord).extractLsb' 0 16 ≠ 0) ∧
    pulseCore.params.legal = true ∧
    ({ pulseCore with pending := [.command 0x0800000000] } : State).pending = [.command 0x0800000000] := by decide

theorem witness_FrontEndMismatchRaisesIllegal :
    byteCore.params.frontEnd = .byte ∧ pulseCore.params.frontEnd = .pulse := by decide

theorem witness_AssembledWordsDecode :
    assemble "BYTE 0x55\nRD STATUS".toList = .ok [0x0300000055, 0x0600020000] := by rfl

/-- The three clauses: a step that completes, one that faults, one that is refused. -/
theorem witness_StepRunsDecodedCommand :
    decode 0x0300000055 = .ok (.byte 0x55) ∧ byteCore.params.legal = true ∧
    nextIs (exec (.byte 0x55) { byteCore with pending := [], out := [] }) (fun _ => true) = true ∧
    faults (exec (.byte 0x55) { byteCore with fstate := .awaitData, didx := 255, pending := [], out := [] }) = true ∧
    refusedAs .heldValidate (exec (.byte 0x55) { byteCore with fstate := .validate, pending := [], out := [] }) =
      true := by
  refine ⟨rfl, ?_⟩
  decide

theorem witness_IdleStepHoldsState : pulseCore.params.legal = true ∧ pulseCore.pending = [] := by decide

theorem witness_ResetInputReinitialises :
    almostPch.params.legal = true ∧
    ({ almostPch with pending := [.reset, .command 0] } : State).pending = .reset :: [.command 0] := by decide

theorem witness_UnfitConfigurationRefused :
    2 ^ (8 - Config.exampleParams.dirShift.toNat) ≤
      ({ Config.exampleParams with dirToHost := 16 } : Params).dirToHost.toNat ∧
    2 ^ Config.exampleParams.dirShift.toNat ≤
      ({ Config.exampleParams with kindChannelValues := 16 } : Params).kindChannelValues.toNat := by decide

theorem witness_NopHasNoEffect :
    (0x0000000001 : CommandWord).extractLsb' 32 8 = 0 ∧ (0x0000000001 : CommandWord) ≠ 0 := by decide

theorem witness_RdUnmappedAnswersZero :
    0x000B ≤ (0x000B : Half).toNat ∧ 0x000B ≤ (0xFFFF : Half).toNat ∧
    (0x0600000001 : CommandWord).extractLsb' 32 8 = 6 ∧ (0x0600000001 : CommandWord).extractLsb' 0 16 ≠ 0 := by decide

theorem witness_WrUnitStoresLegalValues : (1 : Half) ≠ 0 ∧ (65535 : Half) ≠ 0 := by decide

theorem witness_WrReadOnlyRaisesIllegal : 0x0002 ≤ (0x0002 : Half).toNat ∧ 0x0002 ≤ (0xFFFF : Half).toNat := by decide

theorem witness_BurstClearsAccumulator : pulseCore.params.frontEnd = .pulse := by decide

theorem witness_DisabledInputIsDropped :
    State.reset.rxEn = false ∧ State.reset.params.frontEnd = .pulse ∧
    (State.resetOf Config.exampleByteParams).rxEn = false ∧
    (State.resetOf Config.exampleByteParams).params.frontEnd = .byte := by decide

/-- The boundary: a cursor of 7 after the pulse. -/
theorem witness_PulseBelowEightAccumulates :
    pulseCore.params.frontEnd = .pulse ∧ pulseCore.rxEn = true ∧ pulseCore.unit ≠ 0 ∧
    pulseCore.cursor.toNat + (129 : Half).toNat / pulseCore.unit.toNat + (172 : Half).toNat / pulseCore.unit.toNat < 8 := by
  decide

/-- The boundary: a cursor of exactly 8, with the last place of the buffer still free. -/
theorem witness_PulseReachingEightEmitsOneByte :
    let s := { pulseCore with fstate := .awaitData, len := 255, didx := 254, cursor := 7 }
    s.params.frontEnd = .pulse ∧ s.rxEn = true ∧ s.unit ≠ 0 ∧
    8 ≤ s.cursor.toNat + (0 : Half).toNat / s.unit.toNat + (43 : Half).toNat / s.unit.toNat ∧
    s.fstate ≠ .validate ∧ (s.fstate = .awaitData → s.didx.toNat < 255) := by decide

/-- `Encode(0x1C, 43)` with durations inside their units (R139's example), and the bounds of the unit. -/
theorem witness_InverseTransformRoundTrips :
    pulseCore.params.frontEnd = .pulse ∧ pulseCore.rxEn = true ∧ pulseCore.cursor = 0 ∧ pulseCore.acc = 0 ∧
    pulseCore.unit = 43 ∧ 1 ≤ (8191 : Half).toNat ∧ (8191 : Half).toNat ≤ 8191 ∧
    List.Forall₂ (fun (p : Half × Half) (q : Nat × Nat) =>
      (q.1 ≤ p.1.toNat ∧ p.1.toNat < q.1 + (43 : Half).toNat) ∧ (q.2 ≤ p.2.toNat ∧ p.2.toNat < q.2 + (43 : Half).toNat))
      [(86, 130), (171, 42)] (encodePairs 0x1C (43 : Half).toNat) := by
  refine ⟨rfl, rfl, rfl, rfl, rfl, by decide, by decide, ?_⟩
  rw [show encodePairs 0x1C (43 : Half).toNat = [(86, 129), (129, 0)] by decide]
  exact .cons (by decide) (.cons (by decide) .nil)

theorem witness_HeaderSearch :
    byteCore.fstate = .awaitHeader ∧ byteCore.params.frontEnd = .byte ∧ byteCore.rxEn = true ∧
    (0x55 : Byte) = byteCore.params.headerMarker ∧ (0x54 : Byte) ≠ byteCore.params.headerMarker := by decide

theorem witness_IdByteStored :
    let s := { byteCore with fstate := .awaitId }
    s.fstate = .awaitId ∧ s.params.frontEnd = .byte ∧ s.rxEn = true := by decide

theorem witness_LengthByteStored :
    let s := { byteCore with fstate := .awaitLength }
    s.fstate = .awaitLength ∧ s.params.frontEnd = .byte ∧ s.rxEn = true ∧ (0 : Byte) = 0 ∧ (255 : Byte) ≠ 0 := by decide

/-- The last place of the buffer, which completes a payload of 255 bytes. -/
theorem witness_PayloadByteAppended :
    let s := { byteCore with fstate := .awaitData, len := 255, didx := 254 }
    s.fstate = .awaitData ∧ s.didx.toNat < 255 ∧ s.params.frontEnd = .byte ∧ s.rxEn = true := by decide

theorem witness_TrailerByteIsFirstChecksumByte :
    let s := { almostPch with fstate := .awaitTrailer, ck := 0, ckidx := 0 }
    s.fstate = .awaitTrailer ∧ s.params.frontEnd = .byte ∧ s.rxEn = true := by decide

theorem witness_FirstChecksumByteStored :
    let s := { almostPz with ck := 0, ckidx := 0 }
    s.fstate = .awaitChecksum ∧ s.ckidx = 0 ∧ s.params.frontEnd = .byte ∧ s.rxEn = true := by decide

theorem witness_FramerStopsOutsideTheInvariant :
    ({ byteCore with fstate := .awaitData, didx := 255 } : State).didx = 255 ∧
    ({ byteCore with fstate := .validate } : State).fstate = .validate := by decide

theorem witness_NoiseIsDropped :
    byteCore.params.frontEnd = .byte ∧ byteCore.rxEn = true ∧ byteCore.fstate = .awaitHeader ∧
    ∀ b ∈ ([0x00, 0xAA, 0x13] : List Byte), b ≠ byteCore.params.headerMarker := by decide

theorem witness_CrcDetectsOneChangedByte : (0x64 : Byte) ≠ 0xE4 := by decide

/-- `PCH` with its last byte 0x61 (L1.10). -/
theorem witness_MismatchRejectsPacket :
    almostPch.fstate = .awaitChecksum ∧ almostPch.ckidx = 1 ∧
    crc16 (almostPch.hdr :: almostPch.idByte :: almostPch.len :: (List.range almostPch.len.toNat).map almostPch.dataByte) ≠
      almostPch.ck ||| (0x61 : Byte).setWidth 16 <<< 8 := by decide +kernel

/-- `PU`, whose id is not recognised, and `PZ`, which is too short. -/
theorem witness_UnrecognisedPacketOnlyCounted :
    (almostPu.fstate = .awaitChecksum ∧ almostPu.ckidx = 1 ∧
      crc16 (almostPu.hdr :: almostPu.idByte :: almostPu.len :: (List.range almostPu.len.toNat).map almostPu.dataByte) =
        almostPu.ck ||| (0x99 : Byte).setWidth 16 <<< 8 ∧
      ¬ (almostPu.idByte.toNat / 2 ^ almostPu.params.dirShift.toNat = almostPu.params.dirToHost.toNat)) ∧
    (almostPz.fstate = .awaitChecksum ∧ almostPz.ckidx = 1 ∧
      crc16 (almostPz.hdr :: almostPz.idByte :: almostPz.len :: (List.range almostPz.len.toNat).map almostPz.dataByte) =
        almostPz.ck ||| (0x3F : Byte).setWidth 16 <<< 8 ∧
      almostPz.len.toNat < 8) := by decide +kernel

/-- `PCH`, whose length 8 is the least that is acted upon. -/
theorem witness_RecognisedPacketWritesChannels :
    almostPch.fstate = .awaitChecksum ∧ almostPch.ckidx = 1 ∧
    crc16 (almostPch.hdr :: almostPch.idByte :: almostPch.len :: (List.range almostPch.len.toNat).map almostPch.dataByte) =
      almostPch.ck ||| (0x60 : Byte).setWidth 16 <<< 8 ∧
    (almostPch.idByte.toNat / 2 ^ almostPch.params.dirShift.toNat = almostPch.params.dirToHost.toNat ∧
      almostPch.idByte.toNat % 2 ^ almostPch.params.dirShift.toNat = almostPch.params.kindChannelValues.toNat) ∧
    8 ≤ almostPch.len.toNat := by decide +kernel

/-- A command whose events write the channels. -/
theorem witness_ChannelWriteNeedsCrcMatch :
    nextIs (exec (.byte 0x60) almostPch) (fun t => t.out.any Event.isChWrite) = true := by decide +kernel

theorem witness_TableFollowsEvents :
    nextIs (exec (.byte 0x60) almostPch) (fun t => t.ch != almostPch.ch) = true := by decide +kernel

/-- After two of the four writes a reader sees a table that is neither the old one nor the new one. -/
theorem witness_ReaderSeesOldOrNewEntry :
    nextIs (exec (.byte 0x60) almostPch) (fun t =>
      (readerViews almostPch.ch t.out).contains #v[1948, 1848, 0, 0]) = true := by decide +kernel

theorem witness_WirePacketIsAccepted :
    byteCore.params.frontEnd = .byte ∧ byteCore.rxEn = true ∧ byteCore.fstate = .awaitHeader ∧ samples.length ≤ 255 ∧
    (List.replicate 255 (0x55 : Byte)).length ≤ 255 ∧ 8 ≤ samples.length ∧
    ((0x1C : Byte).toNat / 2 ^ byteCore.params.dirShift.toNat = byteCore.params.dirToHost.toNat ∧
      (0x1C : Byte).toNat % 2 ^ byteCore.params.dirShift.toNat = byteCore.params.kindChannelValues.toNat) ∧
    ([] : List Byte).length < 8 := by decide +kernel

/-- The id byte, the first payload byte and the last checksum byte. -/
theorem witness_SingleBitFlipIsRejected :
    byteCore.params.frontEnd = .byte ∧ byteCore.rxEn = true ∧ byteCore.fstate = .awaitHeader ∧ samples.length ≤ 255 ∧
    (3 ≤ 3 ∧ 3 < samples.length + 5) ∧ (3 ≤ 12 ∧ 12 < samples.length + 5) ∧ 7 < 8 := by decide

theorem witness_HstickPolls :
    ({ byteCore with hsState := .polling, hsCount := 69, presence := true } : State).presence = true ∧
    (let s := { byteCore with hsState := .polling, hsCount := 69 }
     s.hsState = .polling ∧ s.presence = false ∧ s.hsCount + 1 = s.params.pollBound) ∧
    (let s := { byteCore with hsState := .polling, hsCount := 68 }
     s.hsState = .polling ∧ s.presence = false ∧ s.hsCount + 1 ≠ s.params.pollBound) := by decide

theorem witness_HstickOutsidePollingIsInert :
    byteCore.hsState ≠ .polling ∧ ({ byteCore with hsState := .failed } : State).hsState ≠ .polling := by decide

theorem witness_HandshakeTransitions :
    nextIs (exec .hstick { byteCore with hsState := .polling, presence := true }) (fun t => t.hsState == .success) =
      true := by decide

theorem witness_ReleaseOnlyOnFailedPoll :
    nextIs (exec .hstick { byteCore with hsState := .polling, hsCount := 69 }) (fun t => t.out.contains .rxRelease) =
      true := by decide

/-- A state inside a packet meets the invariant: the hypothesis of StepKeepsInvariant, StepNeverStops,
HandshakeIsBounded and StalePayloadNeverMatters. -/
theorem almostPch_inv : almostPch.Inv where
  legal := by decide
  unitLegal := by decide
  notValidating := by decide
  accBelowCursor := by decide
  validClear := by decide
  headerHeld := by decide
  dataIndex := by decide
  trailerIndex := by decide
  checksumFresh := by decide
  pollingCount := by decide
  failedCount := by decide
  checksumIndex := by decide
  written := by decide
  dataForm := by decide

theorem witness_HandshakeIsBounded :
    almostPch.Inv ∧ (∀ i ∈ List.replicate 70 Instr.hstick, i ≠ .hsstart) ∧
    almostPch.params.pollBound.toNat ≤ (List.replicate 70 Instr.hstick).count .hstick :=
  ⟨almostPch_inv, by decide, by decide⟩

theorem witness_CmdErrIsSticky :
    ({ pulseCore with cmdErr := true, pending := [.command 0] } : State).cmdErr = true ∧
    nextIs (step { pulseCore with cmdErr := true, pending := [.command 0] }) (fun _ => true) = true ∧
    nextIs (step { pulseCore with cmdErr := true, pending := [.reset] }) (fun t => !t.cmdErr) = true ∧
    Instr.rd 0x0003 ≠ .rd 0x0002 ∧ nextIs (exec (.rd 0x0003) pulseCore) (fun _ => true) = true := by decide

theorem witness_CountersOnlyCountValidations :
    Instr.byte 0x61 ≠ .hsstart ∧ Instr.byte 0x61 ≠ .rd 0x0004 ∧ Instr.byte 0x61 ≠ .rd 0x0005 ∧
    nextIs (exec (.byte 0x61) almostPch) (fun t => t.rejectCnt == 1) = true := by decide +kernel

theorem witness_ParametersNeverChange :
    nextIs (step { pulseCore with pending := [.command 0x0700090001] }) (fun t => t.cmdErr) = true := by decide

theorem witness_RegisterAndTimerCommandsFrame :
    nextIs (exec (.wr 0x0001 40) almostPch) (fun _ => true) = true ∧
    nextIs (exec .hstick almostPch) (fun _ => true) = true := by decide

theorem witness_ReceiveCommandsFrame :
    nextIs (exec (.byte 1) { byteCore with fstate := .awaitData, len := 255, didx := 254 }) (fun _ => true) = true ∧
    nextIs (exec (.pulse 0 344) pulseCore) (fun t => t.out == [.byteOut 0xFF]) = true := by decide +kernel

/-- A buffer with another value past the packet agrees on the packet. -/
theorem witness_StalePayloadNeverMatters :
    almostPch.Inv ∧ AgreesOnPacket almostPch (samplesStored ++ [(200, 0x77)]) ∧
    nextIs (exec (.byte 0x60) almostPch) (fun _ => true) = true := by
  refine ⟨almostPch_inv, fun _ => ?_, by decide +kernel⟩
  decide

theorem witness_StepKeepsPayloadForm :
    Memory.wf samplesStored ∧
    nextIs (step { almostPch with pending := [.command 0x0300000060] }) (fun t => t.acceptCnt == 1) = true := by
  decide +kernel

theorem witness_StepKeepsInvariant :
    ({ almostPch with pending := [.command 0x0300000060] } : State).Inv ∧
    nextIs (step { almostPch with pending := [.command 0x0300000060] }) (fun t => t.presence) = true :=
  ⟨{ almostPch_inv with }, by decide +kernel⟩

theorem witness_StepNeverStops : almostPch.Inv := almostPch_inv

theorem witness_ResetLeavesSpecifiedValues :
    State.reset = State.resetOf Config.exampleParams ∧ State.reset.unit = 43 := ⟨rfl, rfl⟩

theorem witness_ResetMeetsInvariant : Config.exampleByteParams.legal = true := by decide

end Sys2Proof.Tests
end

/-! SUPPORT. The scope statements (00_scope.md): an unfit configuration is refused (R11), and the parameters are fixed
(R9). -/

namespace Sys2Proof.Machine

/-! ## Configurations that cannot hold the recognised id -/

/-- Both conditions of R11 are part of a legal configuration. -/
theorem idFields_fit_of_legal {p : Params} (h : p.legal = true) :
    p.dirToHost.toNat < 2 ^ (8 - p.dirShift.toNat) ∧ p.kindChannelValues.toNat < 2 ^ p.dirShift.toNat := by
  simp only [Params.legal, Params.dirFits, Params.kindFits, Bool.and_eq_true, decide_eq_true_eq] at h
  obtain ⟨⟨_, hdir⟩, hkind⟩ := h
  exact ⟨hdir, hkind⟩

/-- An id byte has 8 bits: above its low DIR_SHIFT bits only `8 - DIR_SHIFT` remain for the direction (R230). -/
theorem idFields_fit_of_recognised {p : Params} {ident : Byte} (h : Recognised p ident) :
    p.dirToHost.toNat < 2 ^ (8 - p.dirShift.toNat) ∧ p.kindChannelValues.toNat < 2 ^ p.dirShift.toNat := by
  obtain ⟨hdir, hkind⟩ := h
  have hshift : p.dirShift.toNat ≤ 8 := by have := p.dirShift.isLt; omega
  have hident : ident.toNat < 2 ^ p.dirShift.toNat * 2 ^ (8 - p.dirShift.toNat) := by
    rw [← pow_add, Nat.add_sub_cancel' hshift]
    exact ident.isLt
  rw [← hdir, ← hkind]
  exact ⟨Nat.div_lt_of_lt_mul hident, Nat.mod_lt _ (Nat.two_pow_pos _)⟩

theorem step_of_not_legal {s : State} (h : ¬ s.params.legal = true) : step s = .refused .illegalConfiguration :=
  if_neg h

/-- Settles O10: a legal configuration and a recognised id byte each force both id fields to fit. -/
theorem unfitConfigurationRefused : Obligations.UnfitConfigurationRefused := by
  intro s unfit
  have not_fit : ¬ (s.params.dirToHost.toNat < 2 ^ (8 - s.params.dirShift.toNat) ∧
      s.params.kindChannelValues.toNat < 2 ^ s.params.dirShift.toNat) := by
    rintro ⟨hdir, hkind⟩
    exact unfit.elim hdir.not_ge hkind.not_ge
  exact ⟨step_of_not_legal fun hlegal => not_fit (idFields_fit_of_legal hlegal),
    fun _ hrec => not_fit (idFields_fit_of_recognised hrec)⟩

/-! ## The parameters are fixed -/

@[simp] theorem State.pollTick_params (s : State) : s.pollTick.params = s.params := by
  cases hp : s.presence with
  | true => rw [pollTick_of_presence hp]
  | false =>
    by_cases hb : s.hsCount + 1 = s.params.pollBound
    · rw [pollTick_of_bound hp hb]
    · rw [pollTick_of_waiting hp hb]

@[simp] theorem State.checksumComplete_params (s : State) (b : Byte) : (s.checksumComplete b).params = s.params := rfl

@[simp] theorem State.pulseEmitted_params (s : State) (bits : Byte) : (s.pulseEmitted bits).params = s.params := rfl

/-- Only the second checksum byte goes through `Validate()`; every other arm writes named fields of the framer. -/
theorem FrameEffect.params_eq {b : Byte} {s t : State} (h : FrameEffect b s t) : t.params = s.params := by
  cases h with
  | secondChecksum => simp
  | _ => rfl

theorem ExecEffect.params_eq {i : Instr} {s t : State} (h : ExecEffect s i t) : t.params = s.params := by
  cases h with
  | pulseByte _ _ _ _ _ _ hframe => exact hframe.params_eq
  | byteFramed _ _ _ _ hframe => exact hframe.params_eq
  | hstickPolls => simp
  | _ => rfl

theorem StepEffect.params_eq {s t : State} (h : StepEffect s t) : t.params = s.params := by
  cases h with
  | command _ _ _ _ _ _ hexec => exact hexec.params_eq
  | _ => rfl

/-- Settles O53, by what a step can do: idle, reset, a malformed word, or one command. -/
theorem parametersNeverChange : Obligations.ParametersNeverChange := by
  intro s t hstep
  obtain ⟨_, heffect⟩ := step_effect hstep
  exact heffect.params_eq

end Sys2Proof.Machine

/-! SUPPORT. The statements about the state (10_state.md): the invariant (R56, R57), stale payload bytes (R39), CMD_ERR
(R54), the channel table (R53) and the words of the registers (R47, R49, R50). -/

namespace Sys2Proof.Machine

/-! ## The effects are exactly what a command does -/

/-- The converse of `frameStep_effect`. -/
theorem frameStep_of_effect {b : Byte} {s t : State} (h : FrameEffect b s t) : frameStep b s = .next t := by
  cases h with
  | marker hf hb => simp only [frameStep, hf, frameHeader, if_pos hb]
  | noise hf hb => simp only [frameStep, hf, frameHeader, if_neg hb]
  | ident hf => simp only [frameStep, hf, frameId]
  | emptyLength hf hb => simp only [frameStep, hf, frameLength, if_pos hb, State.startChecksum]
  | length hf hb => simp only [frameStep, hf, frameLength, if_neg hb]
  | payload hf hi hl => simp only [frameStep, hf, frameData, storeByte_of_lt s _ b hi, if_neg hl]
  | lastPayload hf hi hl => simp only [frameStep, hf, frameData, storeByte_of_lt s _ b hi, if_pos hl]
  | trailer hf => simp [frameStep, hf, frameTrailer, frameChecksum, State.startChecksum]
  | firstChecksum hf hk => simp [frameStep, hf, frameChecksum, hk]
  | secondChecksum hf hk => exact frameStep_secondChecksum b hf hk

/-- A command of the other front end raises IllegalCommand (R107). -/
theorem exec_of_unavailable {i : Instr} {s : State} (h : i.availableIn s.params.frontEnd = false) :
    exec i s = .next s.raiseIllegalCommand := by
  cases i with
  | burst => cases hf : s.params.frontEnd <;> simp_all [Instr.availableIn, exec, execBurst]
  | pulse => cases hf : s.params.frontEnd <;> simp_all [Instr.availableIn, exec, execPulse]
  | byte => cases hf : s.params.frontEnd <;> simp_all [Instr.availableIn, exec, execByte]
  | _ => cases h

/-- WR to any register but CTRL and UNIT, and to an unmapped address, raises IllegalCommand (R294). -/
theorem exec_wr_of_not_writable {addr data : Half} {s : State} (hc : regAt addr ≠ some .ctrl)
    (hu : regAt addr ≠ some .unit) : exec (.wr addr data) s = .next s.raiseIllegalCommand := by
  simp only [exec, execWr]
  split
  · rename_i r hr
    cases r with
    | ctrl => exact absurd hr hc
    | unit => exact absurd hr hu
    | _ => rfl
  · rfl

/-- The converse of `exec_effect`. -/
theorem exec_of_effect {i : Instr} {s t : State} (h : ExecEffect s i t) : exec i s = .next t := by
  cases h with
  | nop => rfl
  | mismatch _ h => exact exec_of_unavailable h
  | wrIllegal _ _ hc hu => exact exec_wr_of_not_writable hc hu
  | burst hf => simp only [exec, execBurst, hf]
  | pulseDropped _ _ hf hr => simp [exec, execPulse, hf, hr]
  | pulseShort _ _ hf hr hc => exact execPulse_of_short hf hr hc
  | pulseByte _ _ _ hf hr hc hframe => exact (execPulse_of_long hf hr hc).trans (frameStep_of_effect hframe)
  | byteDropped _ hf hr => simp [exec, execByte, hf, hr]
  | byteFramed b _ hf hr hframe => exact (execByte_of_enabled b hf hr).trans (frameStep_of_effect hframe)
  | hsstart => rfl
  | hstickInert h => simp only [exec, execHstick, if_neg h]
  | hstickPolls h => simp only [exec, execHstick, if_pos h]
  | rd _ _ hr => simp only [exec, execRd, hr]
  | rdUnmapped _ hr => simp only [exec, execRd, hr]
  | wrCtrl _ _ hr => simp only [exec, execWr, hr, State.writeReg]
  | wrUnitZero _ hr => simp [exec, execWr, hr, State.writeReg]
  | wrUnit _ _ hr hd => simp only [exec, execWr, hr, State.writeReg, if_neg hd]

/-! ## What a tick of the poll leaves alone (R263) -/

/-- A tick reads and writes the handshake alone (R263). -/
theorem pollTick_congr (s : State) (d : List Host.Cell) (n : Nat) (c : Bool) :
    { s with data := d, resets := n, cmdErr := c }.pollTick =
      { s.pollTick with data := d, resets := n, cmdErr := c } := by
  simp only [State.pollTick]
  split
  · rfl
  · split <;> rfl

/-- The handshake's fields and the events are all a tick can change. -/
theorem pollTick_frame (s : State) :
    s.pollTick = { s with
      hsCount := s.pollTick.hsCount, hsState := s.pollTick.hsState, rxEn := s.pollTick.rxEn,
      out := s.pollTick.out } := by
  simp only [State.pollTick]
  split
  · rfl
  · split <;> rfl

@[simp] theorem State.pollTick_data (s : State) : s.pollTick.data = s.data := by rw [pollTick_frame]

@[simp] theorem State.pollTick_resets (s : State) : s.pollTick.resets = s.resets := by rw [pollTick_frame]

@[simp] theorem State.pollTick_cmdErr (s : State) : s.pollTick.cmdErr = s.cmdErr := by rw [pollTick_frame]

@[simp] theorem State.pollTick_ch (s : State) : s.pollTick.ch = s.ch := by rw [pollTick_frame]

theorem pollTick_withBuffer (s : State) (d : List Host.Cell) (n : Nat) :
    { s with data := d, resets := n }.pollTick = { s.pollTick with data := d, resets := n } :=
  (pollTick_congr s d n s.cmdErr).trans (by simp only [State.pollTick_cmdErr])

theorem pollTick_withCmdErr (s : State) (c : Bool) :
    { s with cmdErr := c }.pollTick = { s.pollTick with cmdErr := c } :=
  (pollTick_congr s s.data s.resets c).trans (by simp only [State.pollTick_data, State.pollTick_resets])

/-! ## The invariant (R56) -/

/-- While the framer searches for a header, R56's clauses about a packet in progress hold of any packet fields. -/
theorem State.Inv.of_awaitHeader {t : State} (hf : t.fstate = .awaitHeader) (legal : t.params.legal = true)
    (unitLegal : t.unit ≠ 0) (accBelowCursor : t.acc.toNat < 2 ^ t.cursor.toNat) (validClear : t.valid = false)
    (pollingCount : t.hsState = .polling → t.hsCount.toNat < t.params.pollBound.toNat)
    (failedCount : t.hsState = .failed → t.hsCount = t.params.pollBound) (dataForm : Memory.wf t.data) : t.Inv where
  legal := legal
  unitLegal := unitLegal
  notValidating := by simp [hf]
  accBelowCursor := accBelowCursor
  validClear := validClear
  headerHeld := by simp [hf]
  dataIndex := by simp [hf]
  trailerIndex := by simp [hf]
  checksumFresh := by simp [hf]
  pollingCount := pollingCount
  failedCount := failedCount
  checksumIndex := by simp [hf]
  written := by simp [hf, FrameState.inPayload]
  dataForm := dataForm

theorem pollBound_pos_of_legal {p : Params} (h : p.legal = true) : 0 < p.pollBound.toNat := by
  simp only [Params.legal, Params.pollBoundInRange, Bool.and_eq_true, bne_iff_ne] at h
  obtain ⟨⟨⟨_, hb⟩, _⟩, _⟩ := h
  exact Nat.pos_of_ne_zero fun h0 => hb (BitVec.eq_of_toNat_eq h0)

theorem resetOf_inv {p : Params} (h : p.legal = true) : (State.resetOf p).Inv :=
  .of_awaitHeader rfl h (by simp [State.resetOf, Config.unitReset]) (by simp [State.resetOf]) rfl nofun nofun
    nil_wf

theorem portReset_inv {s : State} (h : s.params.legal = true) : s.portReset.Inv := { resetOf_inv h with }

theorem openSession_inv {s : State} (h : s.Inv) : s.openSession.Inv :=
  .of_awaitHeader rfl h.legal h.unitLegal (by simp) h.validClear (fun _ => pollBound_pos_of_legal h.legal) nofun
    h.dataForm

/-- `Validate()` ends the packet in AwaitHeader, whatever its verdict (R203). -/
theorem validate_inv {s : State} (h : s.Inv) (b : Byte) : (validate (s.checksumComplete b)).Inv := by
  apply State.Inv.of_awaitHeader (validate_fstate _) <;>
    simp only [validate_params, validate_unit, validate_acc, validate_cursor, validate_valid, validate_hsState,
      validate_hsCount, validate_data]
  exacts [h.legal, h.unitLegal, h.accBelowCursor, h.pollingCount, h.failedCount, h.dataForm]

theorem pulseEmitted_inv {s : State} (h : s.Inv) (bits : Byte) : (s.pulseEmitted bits).Inv :=
  { h with accBelowCursor := by simp [State.pulseEmitted] }

/-- Below a bound an index byte does not wrap. -/
theorem toNat_add_one_of_lt {x y : Byte} (h : x.toNat < y.toNat) : (x + 1).toNat = x.toNat + 1 := by
  have := y.isLt
  rw [BitVec.toNat_add_of_lt (by simp; omega)]
  rfl

/-- A byte stored after `k` written bytes makes `k + 1` written bytes (R40). -/
theorem written_storeCell {m : List Host.Cell} {k : Nat} {b : Byte}
    (h : ∀ i < k, (lookupCell m i).isSome = true) :
    ∀ i < k + 1, (lookupCell (storeCell m k b) i).isSome = true := by
  intro i hi
  rw [lookupCell_storeCell]
  split
  · rfl
  · exact h i (by omega)

/-- Every framer step keeps the invariant, arm by arm (R161 to R168). -/
theorem FrameEffect.inv {b : Byte} {s t : State} (h : FrameEffect b s t) (hs : s.Inv) : t.Inv := by
  cases h with
  | marker _ hb =>
    exact { hs with
      notValidating := nofun, headerHeld := fun _ => hb, dataIndex := nofun, trailerIndex := nofun,
      checksumFresh := nofun, checksumIndex := nofun, written := nofun }
  | noise => exact hs
  | ident hf =>
    exact { hs with
      notValidating := nofun, headerHeld := fun _ => hs.headerHeld (by simp [hf]), dataIndex := nofun,
      trailerIndex := nofun, checksumFresh := nofun, checksumIndex := nofun, written := nofun }
  | emptyLength hf hb =>
    exact { hs with
      notValidating := nofun, headerHeld := fun _ => hs.headerHeld (by simp [hf]), dataIndex := nofun,
      trailerIndex := nofun, checksumFresh := fun _ _ => rfl, checksumIndex := fun _ => hb.symm,
      written := fun _ _ hi => absurd hi (Nat.not_lt_zero _) }
  | length hf hb =>
    exact { hs with
      notValidating := nofun, headerHeld := fun _ => hs.headerHeld (by simp [hf]),
      dataIndex := fun _ => Nat.pos_of_ne_zero fun h0 => hb (BitVec.eq_of_toNat_eq h0),
      trailerIndex := nofun, checksumFresh := nofun, checksumIndex := nofun,
      written := fun _ _ hi => absurd hi (Nat.not_lt_zero _) }
  | payload hf hi hl =>
    have hlt := hs.dataIndex hf
    have hsucc := toNat_add_one_of_lt hlt
    have hne : (s.didx + 1).toNat ≠ s.len.toNat := fun e => hl (BitVec.eq_of_toNat_eq e)
    have hnew := written_storeCell (b := b) (hs.written (by simp [hf, FrameState.inPayload]))
    exact { hs with
      dataIndex := fun _ => by simp only; omega
      trailerIndex := fun h => absurd (hf.symm.trans h) nofun
      checksumIndex := fun h => absurd (hf.symm.trans h) nofun
      written := fun _ => by simpa only [hsucc] using hnew
      dataForm := storeCell_wf _ _ _ hi hs.dataForm }
  | lastPayload hf hi hl =>
    have hlt := hs.dataIndex hf
    have hsucc := toNat_add_one_of_lt hlt
    have hnew := written_storeCell (b := b) (hs.written (by simp [hf, FrameState.inPayload]))
    exact { hs with
      notValidating := nofun, headerHeld := fun _ => hs.headerHeld (by simp [hf]), dataIndex := nofun
      trailerIndex := fun _ => ⟨hl, by simp only; omega⟩
      checksumFresh := nofun, checksumIndex := nofun
      written := fun _ => by simpa only [hsucc] using hnew
      dataForm := storeCell_wf _ _ _ hi hs.dataForm }
  | trailer hf =>
    obtain ⟨hidx, _⟩ := hs.trailerIndex hf
    exact { hs with
      notValidating := nofun, headerHeld := fun _ => hs.headerHeld (by simp [hf]), dataIndex := nofun,
      trailerIndex := nofun, checksumFresh := nofun, checksumIndex := fun _ => hidx,
      written := fun _ => hs.written (by simp [hf, FrameState.inPayload]) }
  | firstChecksum => exact { hs with checksumFresh := nofun }
  | secondChecksum => exact validate_inv hs b

/-- A poll that goes on stays below its bound, and one that fails is at it (R263, R265). -/
theorem pollTick_inv {s : State} (hs : s.Inv) (hp : s.hsState = .polling) : s.pollTick.Inv := by
  have hlt := hs.pollingCount hp
  have hsucc := toNat_add_one_of_lt hlt
  cases hpr : s.presence with
  | true =>
    rw [pollTick_of_presence hpr]
    exact { hs with pollingCount := nofun, failedCount := nofun }
  | false =>
    by_cases hb : s.hsCount + 1 = s.params.pollBound
    · rw [pollTick_of_bound hpr hb]
      exact { hs with pollingCount := nofun, failedCount := fun _ => hb }
    · rw [pollTick_of_waiting hpr hb]
      have hne : (s.hsCount + 1).toNat ≠ s.params.pollBound.toNat := fun e => hb (BitVec.eq_of_toNat_eq e)
      exact { hs with
        pollingCount := fun _ => by simp only; omega
        failedCount := fun h => absurd (hp.symm.trans h) nofun }

theorem ExecEffect.inv {i : Instr} {s t : State} (h : ExecEffect s i t) (hs : s.Inv) : t.Inv := by
  cases h with
  | burst => exact { hs with accBelowCursor := by simp [State.clearAccumulator] }
  | pulseShort _ _ _ _ hc =>
    exact { hs with
      accBelowCursor := by
        simp only [BitVec.toNat_ofNat, Nat.mod_eq_of_lt hc]
        exact acc_or_onesMask_lt _ _ _ _ hs.accBelowCursor (Nat.le_add_right _ _) }
  | pulseByte _ _ _ _ _ _ hframe => exact hframe.inv (pulseEmitted_inv hs _)
  | byteFramed _ _ _ _ hframe => exact hframe.inv hs
  | hsstart => exact { openSession_inv hs with }
  | hstickPolls hp => exact pollTick_inv hs hp
  | wrUnit _ _ _ hd => exact { hs with unitLegal := hd }
  | _ => exact { hs with }

theorem StepEffect.inv {s t : State} (h : StepEffect s t) (hs : s.Inv) : t.Inv := by
  cases h with
  | idle => exact hs
  | reset => exact portReset_inv hs.legal
  | malformed => exact { hs with }
  | command _ _ rest u _ _ hexec =>
    have hbegin : (s.beginCommand rest).Inv := { hs with }
    exact { hexec.inv hbegin with }

/-- Settles O59, by what a step can do: each command keeps the invariant, and a reset sets it up again. -/
theorem stepKeepsInvariant : Obligations.StepKeepsInvariant := by
  intro s t hs hstep
  obtain ⟨_, heffect⟩ := step_effect hstep
  exact heffect.inv hs

/-- Settles O58: reset leaves the framer in AwaitHeader, the poll idle and the buffer empty. -/
theorem resetMeetsInvariant : Obligations.ResetMeetsInvariant :=
  ⟨resetOf_inv (p := Config.exampleParams) (by decide), fun _ => resetOf_inv⟩

/-! ## Stale payload bytes (R39) -/

/-- A packet that agrees on the bytes of its payload validates alike: the CRC covers and the dispatcher reads only bytes
below LEN (R202, R235). CMD_ERR is carried along. -/
theorem validate_congr {s : State} {d : List Host.Cell} {n : Nat} {c : Bool}
    (hd : ∀ k < s.len.toNat, { s with data := d, resets := n }.dataByte k = s.dataByte k) :
    validate { s with data := d, resets := n, cmdErr := c } =
      { validate s with data := d, resets := n, cmdErr := c } := by
  have hcrc : { s with data := d, resets := n, cmdErr := c }.crcMatches = s.crcMatches := by
    have hbytes : (List.range s.len.toNat).map { s with data := d, resets := n }.dataByte =
        (List.range s.len.toNat).map s.dataByte :=
      List.map_congr_left fun k hk => hd k (List.mem_range.mp hk)
    exact congrArg (fun bytes => crc16 (s.hdr :: s.idByte :: s.len :: bytes) == s.ck) hbytes
  have hacts : { s with data := d, resets := n, cmdErr := c }.actsOn = s.actsOn := rfl
  cases hm : s.crcMatches with
  | false => rw [validate_of_mismatch hm, validate_of_mismatch (hcrc.trans hm)]
  | true =>
    cases ha : s.actsOn with
    | false => rw [validate_of_ignored hm ha, validate_of_ignored (hcrc.trans hm) (hacts.trans ha)]
    | true =>
      have hlen : 8 ≤ s.len.toNat := by simp [State.actsOn] at ha; exact ha.2
      have haxis : ∀ i < 4, { s with data := d, resets := n, cmdErr := c }.axis i = s.axis i := fun i hi =>
        axis_congr i rfl (hd (2 * i) (by omega)) (hd (2 * i + 1) (by omega))
      rw [validate_of_dispatched hm ha, validate_of_dispatched (hcrc.trans hm) (hacts.trans ha), haxis 0 (by decide),
        haxis 1 (by decide), haxis 2 (by decide), haxis 3 (by decide)]

theorem validate_withBuffer {s : State} {d : List Host.Cell} {n : Nat}
    (hd : ∀ k < s.len.toNat, { s with data := d, resets := n }.dataByte k = s.dataByte k) :
    validate { s with data := d, resets := n } = { validate s with data := d, resets := n } :=
  (validate_congr (c := s.cmdErr) hd).trans (by simp only [validate_cmdErr])

theorem validate_withCmdErr (s : State) (c : Bool) :
    validate { s with cmdErr := c } = { validate s with cmdErr := c } :=
  (validate_congr (d := s.data) (n := s.resets) fun _ _ => rfl).trans (by simp only [validate_data, validate_resets])

/-- Agreement on `k` bytes and the byte stored next make agreement on `k + 1` bytes. -/
theorem lookupCell_storeCell_congr {d m : List Host.Cell} {k : Nat} {b : Byte}
    (h : ∀ i < k, lookupCell d i = lookupCell m i) :
    ∀ i < k + 1, lookupCell (storeCell d k b) i = lookupCell (storeCell m k b) i := by
  intro i hi
  rw [lookupCell_storeCell, lookupCell_storeCell]
  split
  · rfl
  · exact h i (by omega)

/-- Outside a payload every buffer agrees. -/
theorem agreesOnPacket_of_not_inPayload {t : State} {d : List Host.Cell} (h : t.fstate.inPayload = false) :
    AgreesOnPacket t d := fun hin => absurd (h.symm.trans hin) nofun

/-- In AwaitChecksum the whole payload is written (R40), so agreement on the packet is agreement on all of it. -/
theorem dataByte_eq_of_agrees {s : State} {d : List Host.Cell} {n : Nat} (hs : s.Inv) (hd : AgreesOnPacket s d)
    (hf : s.fstate = .awaitChecksum) :
    ∀ k < s.len.toNat, { s with data := d, resets := n }.dataByte k = s.dataByte k := by
  intro k hk
  rw [← hs.checksumIndex hf] at hk
  have hin : s.fstate.inPayload = true := by simp [hf, FrameState.inPayload]
  exact dataByte_of_written (hd hin k hk) (hs.written hin k hk)

/-- A framer step goes the same way on a buffer that agrees on the packet, and the buffers agree afterwards. -/
theorem FrameEffect.withBuffer {b : Byte} {s t : State} {d : List Host.Cell} (n : Nat) (h : FrameEffect b s t)
    (hs : s.Inv) (hd : AgreesOnPacket s d) :
    ∃ d', FrameEffect b { s with data := d, resets := n } { t with data := d', resets := n } ∧
      AgreesOnPacket t d' := by
  cases h with
  | marker hf hb => exact ⟨d, .marker hf hb, nofun⟩
  | noise hf hb => exact ⟨d, .noise hf hb, hd⟩
  | ident hf => exact ⟨d, .ident hf, nofun⟩
  | emptyLength hf hb => exact ⟨d, .emptyLength hf hb, fun _ _ hk => absurd hk (Nat.not_lt_zero _)⟩
  | length hf hb => exact ⟨d, .length hf hb, fun _ _ hk => absurd hk (Nat.not_lt_zero _)⟩
  | payload hf hi hl =>
    have hsucc := toNat_add_one_of_lt (hs.dataIndex hf)
    have hnew := lookupCell_storeCell_congr (b := b) (hd (by simp [hf, FrameState.inPayload]))
    exact ⟨storeCell d s.didx.toNat b, .payload hf hi hl, fun _ => by simpa only [hsucc] using hnew⟩
  | lastPayload hf hi hl =>
    have hsucc := toNat_add_one_of_lt (hs.dataIndex hf)
    have hnew := lookupCell_storeCell_congr (b := b) (hd (by simp [hf, FrameState.inPayload]))
    exact ⟨storeCell d s.didx.toNat b, .lastPayload hf hi hl, fun _ => by simpa only [hsucc] using hnew⟩
  | trailer hf => exact ⟨d, .trailer hf, fun _ => hd (by simp [hf, FrameState.inPayload])⟩
  | firstChecksum hf hk => exact ⟨d, .firstChecksum hf hk, hd⟩
  | secondChecksum hf hk =>
    have hvalidate : validate ({ s with data := d, resets := n }.checksumComplete b) =
        { validate (s.checksumComplete b) with data := d, resets := n } :=
      have hbytes := dataByte_eq_of_agrees hs hd hf
      validate_withBuffer (s := s.checksumComplete b) hbytes
    exact ⟨d, hvalidate ▸ .secondChecksum hf hk, agreesOnPacket_of_not_inPayload (by simp [FrameState.inPayload])⟩

theorem AgreesOnPacket.pollTick {s : State} {d : List Host.Cell} (h : AgreesOnPacket s d) :
    AgreesOnPacket s.pollTick d := by
  rw [pollTick_frame]
  exact h

/-- The same for a command: outside the framer no rule reads or writes DATA. -/
theorem ExecEffect.withBuffer {i : Instr} {s t : State} {d : List Host.Cell} (n : Nat) (h : ExecEffect s i t)
    (hs : s.Inv) (hd : AgreesOnPacket s d) :
    ∃ d', ExecEffect { s with data := d, resets := n } i { t with data := d', resets := n } ∧
      AgreesOnPacket t d' := by
  cases h with
  | nop => exact ⟨d, .nop, hd⟩
  | mismatch _ h => exact ⟨d, .mismatch _ h, hd⟩
  | wrIllegal _ _ hc hu => exact ⟨d, .wrIllegal _ _ hc hu, hd⟩
  | burst hf => exact ⟨d, .burst hf, hd⟩
  | pulseDropped _ _ hf hr => exact ⟨d, .pulseDropped _ _ hf hr, hd⟩
  | pulseShort _ _ hf hr hc => exact ⟨d, .pulseShort _ _ hf hr hc, hd⟩
  | pulseByte _ _ _ hf hr hc hframe =>
    obtain ⟨d', hframe', hd'⟩ := hframe.withBuffer n (pulseEmitted_inv hs _) hd
    exact ⟨d', .pulseByte _ _ _ hf hr hc hframe', hd'⟩
  | byteDropped _ hf hr => exact ⟨d, .byteDropped _ hf hr, hd⟩
  | byteFramed _ _ hf hr hframe =>
    obtain ⟨d', hframe', hd'⟩ := hframe.withBuffer n hs hd
    exact ⟨d', .byteFramed _ _ hf hr hframe', hd'⟩
  | hsstart => exact ⟨d, .hsstart, nofun⟩
  | hstickInert h => exact ⟨d, .hstickInert h, hd⟩
  | hstickPolls hp => exact ⟨d, pollTick_withBuffer s d n ▸ .hstickPolls hp, hd.pollTick⟩
  | rd _ r hr => exact ⟨d, .rd _ r hr, hd⟩
  | rdUnmapped _ hr => exact ⟨d, .rdUnmapped _ hr, hd⟩
  | wrCtrl _ _ hr => exact ⟨d, .wrCtrl _ _ hr, hd⟩
  | wrUnitZero _ hr => exact ⟨d, .wrUnitZero _ hr, hd⟩
  | wrUnit _ _ hr hdata => exact ⟨d, .wrUnit _ _ hr hdata, hd⟩

/-- Settles O56: of a command's rules only `Validate()` reads DATA, and it runs where the whole payload is written. -/
theorem stalePayloadNeverMatters : Obligations.StalePayloadNeverMatters := by
  intro i s t d n hs hd hexec
  obtain ⟨d', heffect, hd'⟩ := (exec_effect hexec).withBuffer n hs hd
  exact ⟨d', exec_of_effect heffect, hd'⟩

/-! ## CMD_ERR (R54) -/

/-- No framer arm reads or writes CMD_ERR. -/
theorem FrameEffect.withCmdErr {b : Byte} {s t : State} (c : Bool) (h : FrameEffect b s t) :
    FrameEffect b { s with cmdErr := c } { t with cmdErr := c } := by
  cases h with
  | marker hf hb => exact .marker hf hb
  | noise hf hb => exact .noise hf hb
  | ident hf => exact .ident hf
  | emptyLength hf hb => exact .emptyLength hf hb
  | length hf hb => exact .length hf hb
  | payload hf hi hl => exact .payload hf hi hl
  | lastPayload hf hi hl => exact .lastPayload hf hi hl
  | trailer hf => exact .trailer hf
  | firstChecksum hf hk => exact .firstChecksum hf hk
  | secondChecksum hf hk =>
    rw [← validate_withCmdErr]
    exact .secondChecksum hf hk

/-- STATUS alone shows CMD_ERR (R47). -/
theorem readReg_withCmdErr {r : Reg} (s : State) (c : Bool) (h : r ≠ .status) :
    { s with cmdErr := c }.readReg r = s.readReg r := by
  cases r with
  | status => exact absurd rfl h
  | _ => rfl

/-- A command either keeps CMD_ERR or sets it, and none but RD STATUS shows it. -/
theorem ExecEffect.withCmdErr {i : Instr} {s t : State} (c : Bool) (h : ExecEffect s i t) (hi : i ≠ .rd 0x0002) :
    ∃ c', ExecEffect { s with cmdErr := c } i { t with cmdErr := c' } := by
  cases h with
  | nop => exact ⟨c, .nop⟩
  | mismatch _ h => exact ⟨true, .mismatch _ h⟩
  | wrIllegal _ _ hc hu => exact ⟨true, .wrIllegal _ _ hc hu⟩
  | burst hf => exact ⟨c, .burst hf⟩
  | pulseDropped _ _ hf hr => exact ⟨c, .pulseDropped _ _ hf hr⟩
  | pulseShort _ _ hf hr hc => exact ⟨c, .pulseShort _ _ hf hr hc⟩
  | pulseByte _ _ _ hf hr hc hframe => exact ⟨c, .pulseByte _ _ _ hf hr hc (hframe.withCmdErr c)⟩
  | byteDropped _ hf hr => exact ⟨c, .byteDropped _ hf hr⟩
  | byteFramed _ _ hf hr hframe => exact ⟨c, .byteFramed _ _ hf hr (hframe.withCmdErr c)⟩
  | hsstart => exact ⟨c, .hsstart⟩
  | hstickInert h => exact ⟨c, .hstickInert h⟩
  | hstickPolls hp => exact ⟨c, pollTick_withCmdErr s c ▸ .hstickPolls hp⟩
  | rd _ r hr =>
    have hne : r ≠ .status := by
      rintro rfl
      exact hi (congrArg Instr.rd (regAt_eq_some.mp hr))
    refine ⟨c, ?_⟩
    have heffect := ExecEffect.rd (s := { s with cmdErr := c }) _ r hr
    rw [readReg_withCmdErr s c hne] at heffect
    exact heffect
  | rdUnmapped _ hr => exact ⟨true, .rdUnmapped _ hr⟩
  | wrCtrl _ _ hr => exact ⟨c, .wrCtrl _ _ hr⟩
  | wrUnitZero _ hr => exact ⟨c, .wrUnitZero _ hr⟩
  | wrUnit _ _ hr hd => exact ⟨c, .wrUnit _ _ hr hd⟩

theorem FrameEffect.cmdErr_eq {b : Byte} {s t : State} (h : FrameEffect b s t) : t.cmdErr = s.cmdErr := by
  cases h with
  | secondChecksum => exact validate_cmdErr _
  | _ => rfl

theorem ExecEffect.cmdErr_sticky {i : Instr} {s t : State} (h : ExecEffect s i t) (hs : s.cmdErr = true) :
    t.cmdErr = true := by
  cases h with
  | mismatch | wrIllegal | rdUnmapped => rfl
  | pulseByte _ _ _ _ _ _ hframe => exact hframe.cmdErr_eq.trans hs
  | byteFramed _ _ _ _ hframe => exact hframe.cmdErr_eq.trans hs
  | hstickPolls => exact (State.pollTick_cmdErr s).trans hs
  | _ => exact hs

/-- Settles O51: every command keeps a set CMD_ERR, and every command but RD STATUS runs alike whatever it holds. -/
theorem cmdErrIsSticky : Obligations.CmdErrIsSticky := by
  refine ⟨fun s t hs hstep => ?_, fun i s t c hi hexec => ?_⟩
  · obtain ⟨_, heffect⟩ := step_effect hstep
    cases heffect with
    | idle => exact .inl hs
    | reset rest hp => exact .inr ⟨rest, hp⟩
    | malformed => exact .inl rfl
    | command _ _ _ _ _ _ hcommand => exact .inl (hcommand.cmdErr_sticky hs)
  · obtain ⟨c', heffect⟩ := (exec_effect hexec).withCmdErr c hi
    exact ⟨c', exec_of_effect heffect⟩

/-! ## The channel table (R53) -/

/-- The events that `t` has emitted since `s` account for the whole change of the channel table (R53). -/
def TableFollows (s t : State) : Prop := ∃ new, t.out = s.out ++ new ∧ t.ch = applyEvents s.ch new

theorem TableFollows.of_silent {s t : State} (hout : t.out = s.out) (hch : t.ch = s.ch) : TableFollows s t :=
  ⟨[], by simp [hout], hch⟩

theorem applyEvents_of_no_write (ch : Vector Half 4) (es : List Event) (h : ∀ e ∈ es, e.isChWrite = false) :
    applyEvents ch es = ch := by
  induction es with
  | nil => rfl
  | cons e es ih =>
    obtain ⟨he, hes⟩ := List.forall_mem_cons.mp h
    have hkeep : applyEvent ch e = ch := by
      cases e with
      | chWrite => cases he
      | _ => rfl
    rw [applyEvents, List.foldl_cons, hkeep]
    exact ih hes

/-- Events that are no channel writes go with a table that stays. -/
theorem TableFollows.of_no_write {s t : State} (es : List Event) (hout : t.out = s.out ++ es)
    (hes : ∀ e ∈ es, e.isChWrite = false) (hch : t.ch = s.ch) : TableFollows s t :=
  ⟨es, hout, hch.trans (applyEvents_of_no_write s.ch es hes).symm⟩

theorem emit_tableFollows (s : State) {e : Event} (he : e.isChWrite = false) : TableFollows s (s.emit e) :=
  .of_no_write [e] rfl (by simpa using he) rfl

theorem pulseEmitted_tableFollows (s : State) (bits : Byte) : TableFollows s (s.pulseEmitted bits) :=
  emit_tableFollows s.clearAccumulator rfl

theorem TableFollows.trans {s t u : State} (hst : TableFollows s t) (htu : TableFollows t u) : TableFollows s u := by
  obtain ⟨es, hes, hch⟩ := hst
  obtain ⟨fs, hfs, hch'⟩ := htu
  refine ⟨es ++ fs, by rw [hfs, hes, List.append_assoc], ?_⟩
  rw [hch', hch, applyEvents, applyEvents, applyEvents, List.foldl_append]

/-- The dispatcher's table is the one its four writes make (R231, R236). -/
theorem validate_tableFollows (s : State) : TableFollows s (validate s) := by
  cases hm : s.crcMatches with
  | false => rw [validate_of_mismatch hm]; exact .of_silent rfl rfl
  | true =>
    cases ha : s.actsOn with
    | false => rw [validate_of_ignored hm ha]; exact .of_silent rfl rfl
    | true =>
      rw [validate_of_dispatched hm ha]
      exact ⟨_, rfl, (set_quartet s.ch _ _ _ _).symm⟩

theorem FrameEffect.tableFollows {b : Byte} {s t : State} (h : FrameEffect b s t) : TableFollows s t := by
  cases h with
  | secondChecksum => exact validate_tableFollows (s.checksumComplete b)
  | _ => exact .of_silent rfl rfl

theorem pollTick_tableFollows (s : State) : TableFollows s s.pollTick := by
  cases hp : s.presence with
  | true => exact .of_no_write [.hsResult true] (by rw [pollTick_of_presence hp]) (by decide) s.pollTick_ch
  | false =>
    by_cases hb : s.hsCount + 1 = s.params.pollBound
    · exact .of_no_write [.rxRelease, .hsResult false] (by rw [pollTick_of_bound hp hb]) (by decide) s.pollTick_ch
    · exact .of_silent (by rw [pollTick_of_waiting hp hb]) s.pollTick_ch

theorem ExecEffect.tableFollows {i : Instr} {s t : State} (h : ExecEffect s i t) : TableFollows s t := by
  cases h with
  | pulseByte _ _ _ _ _ _ hframe => exact (pulseEmitted_tableFollows s _).trans hframe.tableFollows
  | byteFramed _ _ _ _ hframe => exact hframe.tableFollows
  | hsstart => exact emit_tableFollows s.openSession rfl
  | hstickPolls => exact pollTick_tableFollows s
  | rd | rdUnmapped => exact emit_tableFollows _ rfl
  | _ => exact .of_silent rfl rfl

/-- Settles O40: only the dispatcher writes the table, one event for each write. -/
theorem tableFollowsEvents : Obligations.TableFollowsEvents :=
  fun _ _ _ hexec => (exec_effect hexec).tableFollows

/-! ## The register words (R47, R49, R50) -/

/-- A field placed at bit `k` of a register is read back from bit `k` on. -/
@[simp] theorem extractLsb'_placed {m : Nat} (x : BitVec m) (k : Nat) (h : k + m ≤ 32) :
    (x.setWidth 32 <<< k : Word).extractLsb' k m = x := by
  apply BitVec.eq_of_getLsbD_eq
  intro i hi
  have : k + i < 32 := by omega
  have : i < 32 := by omega
  simp [*]

/-- A field leaves all bits below and above it 0. -/
@[simp] theorem extractLsb'_placed_apart {m : Nat} (x : BitVec m) (k k' m' : Nat) (h : k' + m' ≤ k ∨ k + m ≤ k') :
    (x.setWidth 32 <<< k : Word).extractLsb' k' m' = 0 := by
  apply BitVec.eq_of_getLsbD_eq
  intro i hi
  rcases h with h | h
  · have : k' + i < k := by omega
    simp [*]
  · have : x.getLsbD (k' + i - k) = false := BitVec.getLsbD_of_ge _ _ (by omega)
    simp [*]

/-- A field at bit 0 stands without a shift. -/
@[simp] theorem extractLsb'_lowest {m : Nat} (x : BitVec m) (h : m ≤ 32) :
    (x.setWidth 32 : Word).extractLsb' 0 m = x := by
  simpa using extractLsb'_placed x 0 (by omega)

@[simp] theorem extractLsb'_lowest_apart {m : Nat} (x : BitVec m) (k' m' : Nat) (h : m ≤ k') :
    (x.setWidth 32 : Word).extractLsb' k' m' = 0 := by
  simpa using extractLsb'_placed_apart x 0 k' m' (by omega)

/-- R47, R291. -/
theorem statusWord_fields (s : State) :
    s.statusWord.extractLsb' 0 3 = frameCode s.fstate ∧ s.statusWord.extractLsb' 3 1 = 0 ∧
    s.statusWord.extractLsb' 4 3 = s.cursor ∧ s.statusWord.extractLsb' 7 1 = 0 ∧
    s.statusWord.extractLsb' 8 2 = hsCode s.hsState ∧ s.statusWord.extractLsb' 12 20 = 0 := by
  simp [State.statusWord, flagBit, BitVec.extractLsb'_or]

theorem statusWord_flags (s : State) :
    s.statusWord.getLsbD 10 = s.presence ∧ s.statusWord.getLsbD 11 = s.cmdErr := by
  simp [State.statusWord, flagBit]

/-- R49. -/
theorem pkt0Word_fields (s : State) :
    s.pkt0Word.extractLsb' 0 8 = s.hdr ∧ s.pkt0Word.extractLsb' 8 8 = s.idByte ∧
    s.pkt0Word.extractLsb' 16 8 = s.len ∧ s.pkt0Word.extractLsb' 24 8 = s.didx := by
  simp [State.pkt0Word, BitVec.extractLsb'_or]

theorem pkt1Word_fields (s : State) :
    s.pkt1Word.extractLsb' 0 16 = s.ck ∧ s.pkt1Word.extractLsb' 16 1 = s.ckidx ∧
    s.pkt1Word.extractLsb' 17 15 = 0 := by
  simp [State.pkt1Word, BitVec.extractLsb'_or]

theorem frontEndBit_getElem (f : FrontEnd) : (frontEndBit f)[0] = decide (f = .byte) := by cases f <;> rfl

theorem presenceRuleBit_getElem (r : PresenceRule) : (presenceRuleBit r)[0] = decide (r = .channelWrite) := by
  cases r <;> rfl

/-- R50. -/
theorem paramsWord_fields (p : Params) :
    (paramsWord p).extractLsb' 0 8 = p.headerMarker ∧ (paramsWord p).extractLsb' 8 3 = p.dirShift ∧
    (paramsWord p).extractLsb' 14 2 = 0 ∧ (paramsWord p).extractLsb' 16 8 = p.pollBound ∧
    (paramsWord p).extractLsb' 24 8 = 0 := by
  simp [paramsWord, BitVec.extractLsb'_or]

theorem paramsWord_flags (p : Params) :
    (paramsWord p).getLsbD 11 = false ∧ (paramsWord p).getLsbD 12 = decide (p.frontEnd = .byte) ∧
    (paramsWord p).getLsbD 13 = decide (p.presenceRule = .channelWrite) := by
  simp [paramsWord, frontEndBit_getElem, presenceRuleBit_getElem]

theorem params2Word_fields (p : Params) :
    (params2Word p).extractLsb' 0 16 = p.offsetK ∧ (params2Word p).extractLsb' 16 8 = p.dirToHost ∧
    (params2Word p).extractLsb' 24 8 = p.kindChannelValues := by
  simp [params2Word, BitVec.extractLsb'_or]

/-! ## RD and WR of the registers (R291, R294) -/

theorem exec_rd_of_mapped {addr : Half} {r : Reg} (s : State) (h : regAt addr = some r) :
    exec (.rd addr) s = .next { s with out := s.out ++ [.rsp (s.readReg r)] } :=
  exec_of_effect (.rd addr r h)

theorem exec_wr_of_readOnly {addr : Half} {r : Reg} (s : State) (data : Half) (h : regAt addr = some r)
    (hc : r ≠ .ctrl) (hu : r ≠ .unit) : exec (.wr addr data) s = .next { s with cmdErr := true } :=
  exec_wr_of_not_writable (by simpa [h] using hc) (by simpa [h] using hu)

/-- No register shows QUERY_PACKET (R50). -/
theorem readReg_withQueryPacket (s : State) (q : List Byte) (r : Reg) :
    { s with params := { s.params with queryPacket := q } }.readReg r = s.readReg r := by
  cases r <;> rfl

theorem exec_rd_withQueryPacket (s : State) (addr : Half) (q : List Byte) :
    ∃ t, exec (.rd addr) s = .next t ∧
      exec (.rd addr) { s with params := { s.params with queryPacket := q } } =
        .next { t with params := { s.params with queryPacket := q } } := by
  cases h : regAt addr with
  | some r =>
    refine ⟨_, exec_rd_of_mapped s h, ?_⟩
    rw [exec_rd_of_mapped _ h, readReg_withQueryPacket]
  | none => exact ⟨_, exec_of_effect (.rdUnmapped addr h), exec_of_effect (.rdUnmapped addr h)⟩

/-- Settles O13, field by field from the status word and by the codes of R33 and R43. -/
theorem statusWordLayout : Obligations.StatusWordLayout := by
  intro s
  obtain ⟨hframe, hbit3, hcursor, hbit7, hhs, hreserved⟩ := statusWord_fields s
  obtain ⟨hpresence, hcmdErr⟩ := statusWord_flags s
  refine ⟨fun d => exec_wr_of_readOnly s d (r := .status) rfl nofun nofun, s.statusWord,
    exec_rd_of_mapped s (r := .status) rfl, ?_, hbit3, hcursor, hbit7, ?_, hpresence, hcmdErr, hreserved⟩
  · rw [hframe]
    cases s.fstate <;> rfl
  · rw [hhs]
    cases s.hsState <;> rfl

/-- Settles O14, from the fields of the two words. -/
theorem packetRegisterLayout : Obligations.PacketRegisterLayout := fun s =>
  ⟨fun d => ⟨exec_wr_of_readOnly s d (r := .pkt0) rfl nofun nofun,
      exec_wr_of_readOnly s d (r := .pkt1) rfl nofun nofun⟩,
    ⟨s.pkt0Word, exec_rd_of_mapped s (r := .pkt0) rfl, pkt0Word_fields s⟩,
    ⟨s.pkt1Word, exec_rd_of_mapped s (r := .pkt1) rfl, pkt1Word_fields s⟩⟩

/-- Settles O15, from the fields of the two words; no register's value depends on QUERY_PACKET. -/
theorem parameterRegisterLayout : Obligations.ParameterRegisterLayout := by
  intro s
  obtain ⟨hmarker, hshift, hbits14, hbound, hreserved⟩ := paramsWord_fields s.params
  obtain ⟨hbit11, hfrontEnd, hrule⟩ := paramsWord_flags s.params
  exact ⟨fun d => ⟨exec_wr_of_readOnly s d (r := .params) rfl nofun nofun,
      exec_wr_of_readOnly s d (r := .params2) rfl nofun nofun⟩,
    ⟨paramsWord s.params, exec_rd_of_mapped s (r := .params) rfl, hmarker, hshift, hbit11, hfrontEnd, hrule, hbits14,
      hbound, hreserved⟩,
    ⟨params2Word s.params, exec_rd_of_mapped s (r := .params2) rfl, params2Word_fields s.params⟩,
    exec_rd_withQueryPacket s⟩

/-! ## Reset values (R57) and the framer's stops (log 6, log 7) -/

/-- Settles O9: the host's start state is the reset state of the example configuration. -/
theorem resetLeavesSpecifiedValues : Obligations.ResetLeavesSpecifiedValues := by
  intro s hs
  obtain ⟨p, rfl⟩ : ∃ p, s = State.resetOf p := hs.elim (fun h => ⟨Config.exampleParams, h⟩) id
  simp [State.resetOf, Config.unitReset]

/-- The buffer has no byte from `PAYLOAD_CAP` on (R39). -/
theorem storeByte_of_ge (s : State) (i : Nat) (b : Byte) (h : Config.payloadCap ≤ i) : s.storeByte i b = none :=
  if_neg h.not_gt

theorem frameStep_of_full_buffer {s : State} (b : Byte) (hf : s.fstate = .awaitData)
    (h : Config.payloadCap ≤ s.didx.toNat) : frameStep b s = .fault (.payloadIndex s.didx.toNat) := by
  simp only [frameStep, hf, frameData, storeByte_of_ge s _ b h]

/-- Settles O31: DIDX = 255 is `PAYLOAD_CAP`, and the arm for Validate refuses. -/
theorem framerStopsOutsideTheInvariant : Obligations.FramerStopsOutsideTheInvariant := by
  intro s b
  refine ⟨fun hf hidx => ?_, fun hf => ?_⟩
  · rw [frameStep_of_full_buffer b hf (by rw [hidx]; decide), hidx]
    rfl
  · simp only [frameStep, hf]

end Sys2Proof.Machine

/-! SUPPORT. The statements about the memory (20_memory.md): a step at a command word (R81, R100), the payload buffer's
form (R70), the bit order of the CRC (R74), unsynchronised readers of the channel table (R76, R77) and the wire format
(R71). -/

namespace Sys2Proof.Machine

/-! ## A step at a word that decodes (R81, R100) -/

theorem step_of_decode {s : State} {w : CommandWord} {rest : List PortInput} {i : Instr}
    (hlegal : s.params.legal = true) (hp : s.pending = .command w :: rest) (hd : decode w = .ok i) :
    step s = endCommand (exec i (s.beginCommand rest)) := by
  simp only [step, if_pos hlegal, hp, takeCommand, runWord, hd]

/-- Settles O6: the end of a command records the events of a next state and passes a stop on. -/
theorem stepRunsDecodedCommand : Obligations.StepRunsDecodedCommand := by
  intro s w rest i hlegal hp hd
  have hstep : step s = endCommand (exec i { s with pending := rest, out := [] }) := step_of_decode hlegal hp hd
  refine ⟨fun t hexec => ?_, fun f hexec => ?_, fun r hexec => ?_⟩ <;> rw [hstep, hexec] <;> rfl

/-! ## The form of the payload buffer (R70) -/

/-- Only the payload arm stores, and it stores below `PAYLOAD_CAP` (R165). -/
theorem FrameEffect.data_wf {b : Byte} {s t : State} (h : FrameEffect b s t) (hs : Memory.wf s.data) :
    Memory.wf t.data := by
  cases h with
  | payload _ hi | lastPayload _ hi => exact storeCell_wf _ _ _ hi hs
  | secondChecksum => rwa [validate_data]
  | _ => exact hs

theorem ExecEffect.data_wf {i : Instr} {s t : State} (h : ExecEffect s i t) (hs : Memory.wf s.data) :
    Memory.wf t.data := by
  cases h with
  | pulseByte _ _ _ _ _ _ hframe => exact hframe.data_wf hs
  | byteFramed _ _ _ _ hframe => exact hframe.data_wf hs
  | hstickPolls => rwa [State.pollTick_data]
  | _ => exact hs

/-- Settles O57, by what a step can do: the framer alone stores, and a reset leaves the empty buffer. -/
theorem stepKeepsPayloadForm : Obligations.StepKeepsPayloadForm := by
  intro s t hs hstep
  obtain ⟨_, heffect⟩ := step_effect hstep
  cases heffect with
  | idle | malformed => exact hs
  | reset => exact nil_wf
  | command _ _ _ _ _ _ hexec => exact hexec.data_wf hs

/-! ## The CRC as a serial CRC (R74, R200) -/

/-- One bit step on a register that holds pending data `p`: the top pending bit is compared with the bit that leaves,
and the rest of `p` moves up. -/
theorem crcBit_xor (r p : Half) : crcBit (r ^^^ p) = crcSerialBit r (p.getLsbD 15) ^^^ p <<< 1 := by
  have hshift : (r ^^^ p) <<< 1 = r <<< 1 ^^^ p <<< 1 := BitVec.shiftLeft_xor_distrib r p 1
  by_cases h : r.getLsbD 15 = p.getLsbD 15
  · have hleaves : ¬ (r ^^^ p).getLsbD 15 = true := by rw [BitVec.getLsbD_xor, h, Bool.xor_self]; exact nofun
    rw [crcBit, if_neg hleaves, crcSerialBit, if_pos h, hshift]
  · have hleaves : (r ^^^ p).getLsbD 15 = true := by simpa using h
    rw [crcBit, if_pos hleaves, crcSerialBit, if_neg h, hshift]
    ac_rfl

/-- `n` bit steps consume the `n` top bits of the pending data, the highest first. -/
theorem crcBit_iterate_xor (r p : Half) (n : Nat) (hn : n ≤ 16) :
    crcBit^[n] (r ^^^ p) =
      ((List.range n).map fun j => p.getLsbD (15 - j)).foldl crcSerialBit r ^^^ p <<< n := by
  induction n with
  | zero => simp
  | succ n ih =>
    have htop : (p <<< n).getLsbD 15 = p.getLsbD (15 - n) := by
      have : ¬ 15 < n := by omega
      rw [BitVec.getLsbD_shiftLeft]
      simp only [this, decide_false, decide_true, Nat.reduceLT, Bool.not_false, Bool.true_and]
    rw [Function.iterate_succ_apply', ih (by omega), crcBit_xor, htop, List.range_succ, List.map_append,
      List.foldl_append, BitVec.shiftLeft_add]
    rfl

/-- A byte at the top of the register is its eight bits, and eight steps move it out (R200). -/
theorem crcByte_eq_serial (r : Half) (x : Byte) : crcByte r x = (bitsMsbFirst x).foldl crcSerialBit r := by
  have hbits : ((List.range 8).map fun j => (x.setWidth 16 <<< 8 : Half).getLsbD (15 - j)) = bitsMsbFirst x := by
    apply List.map_congr_left
    intro j hj
    have hj : j < 8 := List.mem_range.mp hj
    have hidx : 15 - j - 8 = 7 - j := by omega
    have h8 : ¬ 15 - j < 8 := by omega
    have h16 : 15 - j < 16 := by omega
    simp [h8, h16, hidx]
  have hout : (x.setWidth 16 <<< 8 : Half) <<< 8 = 0#16 := by
    rw [← BitVec.shiftLeft_add]
    exact BitVec.shiftLeft_eq_zero (by decide)
  calc crcByte r x = crcBit^[8] (r ^^^ x.setWidth 16 <<< 8) := rfl
    _ = (bitsMsbFirst x).foldl crcSerialBit r := by
      rw [crcBit_iterate_xor _ _ 8 (by decide), hbits, hout, BitVec.xor_zero]

/-- Settles O34: byte by byte, each byte's bits are taken most significant first. -/
theorem crcIsSerialMsbFirst : Obligations.CrcIsSerialMsbFirst := by
  intro bytes
  have hstep : crcByte = fun r x => (bitsMsbFirst x).foldl crcSerialBit r := by
    funext r x
    exact crcByte_eq_serial r x
  rw [crc16, hstep, List.foldl_flatMap]

/-! ## Unsynchronised readers of the channel table (R76, R77) -/

/-- After any events an entry is the old one, or a value that one of them wrote there whole. -/
theorem applyEvents_entry (ch : Vector Half 4) (es : List Event) (k : Fin 4) :
    (applyEvents ch es)[k] = ch[k] ∨ Event.chWrite k (applyEvents ch es)[k] ∈ es := by
  induction es generalizing ch with
  | nil => exact .inl rfl
  | cons e es ih =>
    have hcons : applyEvents ch (e :: es) = applyEvents (applyEvent ch e) es := rfl
    rw [hcons]
    rcases ih (applyEvent ch e) with hold | hmem
    · cases e with
      | chWrite i v =>
        by_cases hik : i = k
        · subst hik
          refine .inr (List.mem_cons.mpr (.inl ?_))
          rw [hold]
          simp [applyEvent]
        · refine .inl (hold.trans ?_)
          have : i.val ≠ k.val := fun h => hik (Fin.ext h)
          simp [applyEvent, this]
      | _ => exact .inl hold
    · exact .inr (List.mem_cons_of_mem _ hmem)

/-- Every channel write that `t` has emitted since `s` wrote the value that stands in the table of `t`. -/
def WritesFinalEntries (s t : State) : Prop :=
  ∃ new, t.out = s.out ++ new ∧ ∀ (k : Fin 4) (v : Half), Event.chWrite k v ∈ new → v = t.ch[k]

theorem WritesFinalEntries.of_no_write {s t : State} (es : List Event) (hout : t.out = s.out ++ es)
    (hes : ∀ e ∈ es, e.isChWrite = false) : WritesFinalEntries s t :=
  ⟨es, hout, fun _ _ hmem => absurd (hes _ hmem) nofun⟩

theorem WritesFinalEntries.of_silent {s t : State} (hout : t.out = s.out) : WritesFinalEntries s t :=
  .of_no_write [] (by simp [hout]) nofun

theorem emit_writesFinalEntries (s : State) {e : Event} (he : e.isChWrite = false) :
    WritesFinalEntries s (s.emit e) :=
  .of_no_write [e] rfl (by simpa using he)

/-- A byte that PULSE emits first is no write. -/
theorem WritesFinalEntries.of_pulseEmitted {s t : State} {bits : Byte}
    (h : WritesFinalEntries (s.pulseEmitted bits) t) : WritesFinalEntries s t := by
  obtain ⟨new, hout, hfinal⟩ := h
  refine ⟨.byteOut bits :: new, by simp [hout, State.pulseEmitted], fun k v hmem => ?_⟩
  exact hfinal k v (by simpa using hmem)

/-- The dispatcher writes each entry once (R231, R236). -/
theorem validate_writesFinalEntries (s : State) : WritesFinalEntries s (validate s) := by
  cases hm : s.crcMatches with
  | false => rw [validate_of_mismatch hm]; exact .of_silent rfl
  | true =>
    cases ha : s.actsOn with
    | false => rw [validate_of_ignored hm ha]; exact .of_silent rfl
    | true =>
      rw [validate_of_dispatched hm ha]
      refine ⟨_, rfl, fun k v hmem => ?_⟩
      simp only [List.mem_cons, Event.chWrite.injEq, List.not_mem_nil, or_false] at hmem
      rcases hmem with ⟨rfl, rfl⟩ | ⟨rfl, rfl⟩ | ⟨rfl, rfl⟩ | ⟨rfl, rfl⟩ <;> rfl

theorem FrameEffect.writesFinalEntries {b : Byte} {s t : State} (h : FrameEffect b s t) : WritesFinalEntries s t := by
  cases h with
  | secondChecksum => exact validate_writesFinalEntries (s.checksumComplete b)
  | _ => exact .of_silent rfl

theorem pollTick_writesFinalEntries (s : State) : WritesFinalEntries s s.pollTick := by
  cases hp : s.presence with
  | true => exact .of_no_write [.hsResult true] (by rw [pollTick_of_presence hp]) (by decide)
  | false =>
    by_cases hb : s.hsCount + 1 = s.params.pollBound
    · exact .of_no_write [.rxRelease, .hsResult false] (by rw [pollTick_of_bound hp hb]) (by decide)
    · exact .of_silent (by rw [pollTick_of_waiting hp hb])

theorem ExecEffect.writesFinalEntries {i : Instr} {s t : State} (h : ExecEffect s i t) : WritesFinalEntries s t := by
  cases h with
  | pulseByte _ _ _ _ _ _ hframe => exact hframe.writesFinalEntries.of_pulseEmitted
  | byteFramed _ _ _ _ hframe => exact hframe.writesFinalEntries
  | hsstart => exact emit_writesFinalEntries s.openSession rfl
  | hstickPolls => exact pollTick_writesFinalEntries s
  | rd | rdUnmapped => exact emit_writesFinalEntries _ rfl
  | _ => exact .of_silent rfl

/-- Settles O41: a reader's view is the table after some of the writes, and each of them wrote the final entry. -/
theorem readerSeesOldOrNewEntry : Obligations.ReaderSeesOldOrNewEntry := by
  intro i s t hexec
  obtain ⟨new, hout, hfinal⟩ := (exec_effect hexec).writesFinalEntries
  refine ⟨new, hout, fun view hview k => ?_⟩
  obtain ⟨n, _, rfl⟩ := List.mem_map.mp hview
  exact (applyEvents_entry s.ch (new.take n) k).imp_right fun hmem => hfinal k _ (List.mem_of_mem_take hmem)

end Sys2Proof.Machine

/-! SUPPORT. The wire format (20_memory.md R71): the framer takes the bytes of a packet one by one, stays inside the
packet until the last one, and validates on that. -/

namespace Sys2Proof.Machine

/-! ## Bytes taken inside a packet -/

/-- `t` is inside the packet that began after `s`: nothing was emitted or counted since. -/
structure InPacketSince (s t : State) : Prop where
  started : t.fstate ≠ .awaitHeader
  out_eq : t.out = s.out
  acceptCnt_eq : t.acceptCnt = s.acceptCnt
  rejectCnt_eq : t.rejectCnt = s.rejectCnt

/-- The framer takes `bytes` one after the other from `s` to `t`, and after each of them it is inside a packet. -/
inductive FramesInPacket : List Byte → State → State → Prop where
  | nil (s : State) : FramesInPacket [] s s
  | cons {b : Byte} {bytes : List Byte} {s u t : State} : FrameEffect b s u → InPacketSince s u →
      FramesInPacket bytes u t → FramesInPacket (b :: bytes) s t

theorem InPacketSince.trans {s u t : State} (hsu : InPacketSince s u) (hut : InPacketSince u t) :
    InPacketSince s t where
  started := hut.started
  out_eq := hut.out_eq.trans hsu.out_eq
  acceptCnt_eq := hut.acceptCnt_eq.trans hsu.acceptCnt_eq
  rejectCnt_eq := hut.rejectCnt_eq.trans hsu.rejectCnt_eq

theorem FramesInPacket.inPacketSince {bytes : List Byte} {s t : State} (h : FramesInPacket bytes s t)
    (hne : bytes ≠ []) : InPacketSince s t := by
  induction h with
  | nil => exact absurd rfl hne
  | @cons b bytes s u t _ hu htail ih =>
    by_cases hnil : bytes = []
    · subst hnil
      cases htail
      exact hu
    · exact hu.trans (ih hnil)

theorem FramesInPacket.single {b : Byte} {s t : State} (h : FrameEffect b s t) (ht : InPacketSince s t) :
    FramesInPacket [b] s t := .cons h ht (.nil t)

theorem FramesInPacket.append {as bs : List Byte} {s u t : State} (has : FramesInPacket as s u)
    (hbs : FramesInPacket bs u t) : FramesInPacket (as ++ bs) s t := by
  induction has with
  | nil => exact hbs
  | cons h hu _ ih => exact .cons h hu (ih hbs)

/-- A run of bytes can be stopped after any of them. -/
theorem FramesInPacket.take {bytes : List Byte} {s t : State} (h : FramesInPacket bytes s t) (n : Nat) :
    ∃ u, FramesInPacket (bytes.take n) s u := by
  induction h generalizing n with
  | nil s => exact ⟨s, by simpa using .nil s⟩
  | @cons _ _ s _ _ heffect hu _ ih =>
    cases n with
    | zero => exact ⟨s, .nil s⟩
    | succ n =>
      obtain ⟨v, hv⟩ := ih n
      exact ⟨v, .cons heffect hu hv⟩

/-! ## BYTE commands (R160) -/

theorem FrameEffect.rxEn_eq {b : Byte} {s t : State} (h : FrameEffect b s t) : t.rxEn = s.rxEn := by
  cases h with
  | secondChecksum => exact validate_rxEn _
  | _ => rfl

/-- On a core that receives bytes the commands go on where the framer step ends. -/
theorem runCommands_byte {b : Byte} {s u : State} (is : List Instr) (hf : s.params.frontEnd = .byte)
    (hr : s.rxEn = true) (h : FrameEffect b s u) : runCommands (.byte b :: is) s = runCommands is u := by
  simp only [runCommands, exec_of_effect (.byteFramed b u hf hr h)]

theorem FramesInPacket.runCommands_append {bytes : List Byte} {s t : State} (h : FramesInPacket bytes s t)
    (is : List Instr) (hf : s.params.frontEnd = .byte) (hr : s.rxEn = true) :
    runCommands (bytes.map .byte ++ is) s = runCommands is t := by
  induction h with
  | nil => rfl
  | cons heffect _ _ ih =>
    rw [List.map_cons, List.cons_append, runCommands_byte _ hf hr heffect]
    exact ih (heffect.params_eq ▸ hf) (heffect.rxEn_eq.trans hr)

theorem FramesInPacket.runCommands_eq {bytes : List Byte} {s t : State} (h : FramesInPacket bytes s t)
    (hf : s.params.frontEnd = .byte) (hr : s.rxEn = true) : runCommands (bytes.map .byte) s = .next t := by
  simpa [runCommands] using h.runCommands_append [] hf hr

/-! ## The payload (R165) -/

/-- The buffer after `bytes` are stored from index `i` on. -/
def storeFrom : List Host.Cell → Nat → List Byte → List Host.Cell
  | m, _, [] => m
  | m, i, b :: bytes => storeFrom (storeCell m i b) (i + 1) bytes

theorem lookupCell_storeFrom_below (m : List Host.Cell) {i j : Nat} (bytes : List Byte) (h : j < i) :
    lookupCell (storeFrom m i bytes) j = lookupCell m j := by
  induction bytes generalizing m i with
  | nil => rfl
  | cons b bytes ih =>
    rw [storeFrom, ih (storeCell m i b) (Nat.lt_succ_of_lt h), lookupCell_storeCell, if_neg h.ne']

theorem lookupCell_storeFrom (m : List Host.Cell) (i : Nat) (bytes : List Byte) (k : Nat) (h : k < bytes.length) :
    lookupCell (storeFrom m i bytes) (i + k) = some bytes[k] := by
  induction bytes generalizing m i k with
  | nil => cases h
  | cons b bytes ih =>
    cases k with
    | zero =>
      have hkept := lookupCell_storeFrom_below (storeCell m i b) bytes (Nat.lt_add_one i)
      rwa [lookupCell_storeCell, if_pos rfl] at hkept
    | succ k =>
      have hk : k < bytes.length := Nat.lt_of_succ_lt_succ h
      have hidx : i + (k + 1) = i + 1 + k := by omega
      rw [storeFrom, hidx, ih _ _ k hk, List.getElem_cons_succ]

/-- The bytes that the payload still lacks take the framer from AwaitData to AwaitTrailer. -/
theorem framesInPacket_payload {s : State} (bytes : List Byte) (hne : bytes ≠ []) (hf : s.fstate = .awaitData)
    (hlen : s.didx.toNat + bytes.length = s.len.toNat) :
    FramesInPacket bytes s { s with
      data := storeFrom s.data s.didx.toNat bytes, didx := s.len, fstate := .awaitTrailer } := by
  induction bytes generalizing s with
  | nil => exact absurd rfl hne
  | cons b bytes ih =>
    rw [List.length_cons] at hlen
    have hlt : s.didx.toNat < s.len.toNat := by omega
    have hsucc := toNat_add_one_of_lt hlt
    have hcap : s.didx.toNat < Config.payloadCap := lt_of_lt_of_le hlt (Nat.le_of_lt_succ s.len.isLt)
    by_cases hnil : bytes = []
    · subst hnil
      have hlast : s.didx + 1 = s.len := BitVec.eq_of_toNat_eq (hsucc.trans hlen)
      have heffect := FrameEffect.lastPayload (b := b) hf hcap hlast
      rw [hlast] at heffect
      exact .single heffect ⟨nofun, rfl, rfl, rfl⟩
    · have hpos := List.length_pos_of_ne_nil hnil
      have hmore : s.didx + 1 ≠ s.len := fun h => by rw [← h, hsucc] at hlen; omega
      have htail := ih (s := { s with data := storeCell s.data s.didx.toNat b, didx := s.didx + 1 }) hnil hf
        (by simp only [hsucc]; omega)
      simp only [hsucc] at htail
      exact .cons (.payload hf hcap hmore) ⟨by simp [hf], rfl, rfl, rfl⟩ htail

/-! ## A whole packet (R71, R161 to R167) -/

/-- The state when of a packet only the high checksum byte is still to come. -/
def State.packetTaken (s : State) (ident : Byte) (payload : List Byte) (low : Byte) : State :=
  { s with
    hdr := s.params.headerMarker, idByte := ident, len := BitVec.ofNat 8 payload.length,
    didx := BitVec.ofNat 8 payload.length, data := storeFrom s.data 0 payload, ck := low.setWidth 16, ckidx := 1,
    fstate := .awaitChecksum }

/-- On a cleared accumulator the low checksum byte is the whole of CK (R167). -/
theorem freshChecksum_effect {s : State} (low : Byte) (hf : s.fstate = .awaitChecksum) (hck : s.ck = 0#16)
    (hk : s.ckidx = 0) : FrameEffect low s { s with ck := low.setWidth 16, ckidx := 1 } := by
  have heffect := FrameEffect.firstChecksum (b := low) hf hk
  rwa [hck, BitVec.zero_or] at heffect

/-- The length byte, the payload and the low checksum byte: an empty payload goes straight to the checksum (R164). -/
theorem framesInPacket_rest {s : State} (payload : List Byte) (low : Byte) (hf : s.fstate = .awaitLength)
    (hlen : payload.length ≤ 255) :
    FramesInPacket (BitVec.ofNat 8 payload.length :: payload ++ [low]) s { s with
      len := BitVec.ofNat 8 payload.length, didx := BitVec.ofNat 8 payload.length,
      data := storeFrom s.data 0 payload, ck := low.setWidth 16, ckidx := 1, fstate := .awaitChecksum } := by
  have hnat : (BitVec.ofNat 8 payload.length).toNat = payload.length := by
    rw [BitVec.toNat_ofNat, Nat.mod_eq_of_lt (by omega)]
  by_cases hnil : payload = []
  · subst hnil
    exact .cons (.emptyLength hf rfl) ⟨nofun, rfl, rfl, rfl⟩
      (.single (freshChecksum_effect low rfl rfl rfl) ⟨nofun, rfl, rfl, rfl⟩)
  · have hpos := List.length_pos_of_ne_nil hnil
    have hne : BitVec.ofNat 8 payload.length ≠ 0 := fun h => by
      have := congrArg BitVec.toNat h
      rw [hnat] at this
      exact hpos.ne' this
    have hpayload := framesInPacket_payload
      (s := { s with len := BitVec.ofNat 8 payload.length, didx := 0, fstate := .awaitData }) payload hnil rfl
      (by simpa using hnat.symm)
    exact .cons (.length hf hne) ⟨nofun, rfl, rfl, rfl⟩
      (hpayload.append (.single (.trailer rfl) ⟨nofun, rfl, rfl, rfl⟩))

/-- All bytes of a packet but the last keep the framer inside the packet. -/
theorem framesInPacket_packet {s : State} (ident : Byte) (payload : List Byte) (low : Byte)
    (hf : s.fstate = .awaitHeader) (hlen : payload.length ≤ 255) :
    FramesInPacket (packetBody s.params.headerMarker ident payload ++ [low]) s (s.packetTaken ident payload low) :=
  .cons (.marker hf rfl) ⟨nofun, rfl, rfl, rfl⟩
    (.cons (.ident rfl) ⟨nofun, rfl, rfl, rfl⟩ (framesInPacket_rest payload low rfl hlen))

/-- The state in which `Validate()` sees a packet with the checksum bytes `low` and `high`. -/
def State.packetComplete (s : State) (ident : Byte) (payload : List Byte) (low high : Byte) : State :=
  (s.packetTaken ident payload low).checksumComplete high

/-- A packet with any two checksum bytes runs to `Validate()` of itself (R168). -/
theorem runCommands_packet {s : State} (ident : Byte) (payload : List Byte) (low high : Byte)
    (hfe : s.params.frontEnd = .byte) (hr : s.rxEn = true) (hf : s.fstate = .awaitHeader)
    (hlen : payload.length ≤ 255) :
    runCommands ((packetBody s.params.headerMarker ident payload ++ [low, high]).map .byte) s =
      .next (validate (s.packetComplete ident payload low high)) := by
  have hlast : FrameEffect high (s.packetTaken ident payload low)
      (validate (s.packetComplete ident payload low high)) := .secondChecksum rfl rfl
  have hsplit : packetBody s.params.headerMarker ident payload ++ [low, high] =
      packetBody s.params.headerMarker ident payload ++ [low] ++ [high] := by simp
  rw [hsplit, List.map_append,
    (framesInPacket_packet ident payload low hf hlen).runCommands_append _ hfe hr]
  exact runCommands_byte [] hfe hr hlast

theorem packetComplete_len (s : State) (ident : Byte) {payload : List Byte} (low high : Byte)
    (hlen : payload.length ≤ 255) : (s.packetComplete ident payload low high).len.toNat = payload.length :=
  (BitVec.toNat_ofNat _ _).trans (Nat.mod_eq_of_lt (by omega))

theorem packetComplete_ck (s : State) (ident : Byte) (payload : List Byte) (low high : Byte) :
    (s.packetComplete ident payload low high).ck = low.setWidth 16 ||| high.setWidth 16 <<< 8 := rfl

/-- The buffer holds the payload (R165). -/
theorem packetComplete_dataByte (s : State) (ident : Byte) (payload : List Byte) (low high : Byte) (k : Nat)
    (h : k < payload.length) : (s.packetComplete ident payload low high).dataByte k = payload[k] := by
  have hlookup := lookupCell_storeFrom s.data 0 payload k h
  rw [Nat.zero_add] at hlookup
  have hdata : (s.packetComplete ident payload low high).data = storeFrom s.data 0 payload := rfl
  rw [State.dataByte, hdata, hlookup, Option.getD_some]

/-- The CRC covers the packet's bytes in wire order (R202). -/
theorem packetComplete_coveredBytes (s : State) (ident : Byte) {payload : List Byte} (low high : Byte)
    (hlen : payload.length ≤ 255) :
    (s.packetComplete ident payload low high).coveredBytes = packetBody s.params.headerMarker ident payload := by
  have hpayload : (List.range payload.length).map (s.packetComplete ident payload low high).dataByte = payload :=
    List.ext_getElem (by simp) fun k _ hk => by simp [packetComplete_dataByte s ident payload low high k hk]
  rw [State.coveredBytes, packetComplete_len s ident low high hlen, hpayload]
  rfl

/-- The verdict compares the CRC of the packet with the two bytes that came with it (R203). -/
theorem packetComplete_crcMatches (s : State) (ident : Byte) {payload : List Byte} (low high : Byte)
    (hlen : payload.length ≤ 255) :
    (s.packetComplete ident payload low high).crcMatches =
      (crc16 (packetBody s.params.headerMarker ident payload) == low.setWidth 16 ||| high.setWidth 16 <<< 8) := by
  rw [State.crcMatches, packetComplete_coveredBytes s ident low high hlen, packetComplete_ck]

/-- The verdict is positive on the packet's own checksum (R72). -/
theorem packetComplete_crcMatches_own (s : State) (ident : Byte) {payload : List Byte} (hlen : payload.length ≤ 255) :
    (s.packetComplete ident payload (lowByte (crc16 (packetBody s.params.headerMarker ident payload)))
      (highByte (crc16 (packetBody s.params.headerMarker ident payload)))).crcMatches = true := by
  rw [packetComplete_crcMatches s ident _ _ hlen, lowByte_or_highByte, beq_self_eq_true]

/-! ## The dispatcher's fields (R230, R232, R233) -/

/-- The shift and the mask are the quotient and the remainder by `2 ^ DIR_SHIFT`. -/
theorem idRecognised_iff (p : Params) (ident : Byte) : idRecognised p ident = true ↔ Recognised p ident := by
  have hshift : p.dirShift.toNat ≤ 7 := Nat.le_of_lt_succ p.dirShift.isLt
  have hmask : 2 ^ p.dirShift.toNat - 1 < 2 ^ 8 :=
    lt_of_le_of_lt (Nat.sub_le _ _) (Nat.pow_lt_pow_right (by decide) (by omega))
  have hdirection : (direction p ident).toNat = ident.toNat / 2 ^ p.dirShift.toNat := by
    rw [direction, BitVec.toNat_ushiftRight, Nat.shiftRight_eq_div_pow]
  have hkind : (kind p ident).toNat = ident.toNat % 2 ^ p.dirShift.toNat := by
    rw [kind, BitVec.toNat_and, BitVec.toNat_ofNat, Nat.mod_eq_of_lt hmask, Nat.and_two_pow_sub_one_eq_mod]
  rw [idRecognised, Bool.and_eq_true, beq_iff_eq, beq_iff_eq, ← BitVec.toNat_inj, ← BitVec.toNat_inj, hdirection,
    hkind, Recognised]

theorem actsOn_iff (s : State) : s.actsOn = true ↔ Recognised s.params s.idByte ∧ 8 ≤ s.len.toNat := by
  rw [State.actsOn, Bool.and_eq_true, idRecognised_iff, decide_eq_true_eq]

/-- Two bytes put together are their little-endian number (R73). -/
theorem littleEndian_eq (low high : Byte) :
    (low.setWidth 16 ||| high.setWidth 16 <<< 8 : Half) = BitVec.ofNat 16 (low.toNat + 256 * high.toNat) := by
  apply BitVec.eq_of_toNat_eq
  have hlow := low.isLt
  have hhigh := high.isLt
  have hplaced : (high.setWidth 16 <<< 8 : Half).toNat = high.toNat <<< 8 := by
    simp only [BitVec.toNat_shiftLeft, BitVec.toNat_setWidth, Nat.shiftLeft_eq]
    omega
  have hsum : high.toNat <<< 8 + low.toNat = high.toNat <<< 8 ||| low.toNat := Nat.shiftLeft_add_eq_or_of_lt hlow _
  rw [BitVec.toNat_or, hplaced, BitVec.toNat_setWidth, Nat.mod_eq_of_lt (by omega), Nat.or_comm, ← hsum,
    BitVec.toNat_ofNat, Nat.shiftLeft_eq]
  omega

/-- The dispatcher's value of a sample is the table value of the payload (R232, R233). -/
theorem axis_eq_tableValue (s : State) (i : Nat) : s.axis i = tableValue s.params.offsetK s.dataByte i := by
  rw [State.axis, State.sample, littleEndian_eq, channelValue, tableValue]

theorem tableValue_congr {k : Half} {f g : Nat → Byte} {i : Nat} (h0 : f (2 * i) = g (2 * i))
    (h1 : f (2 * i + 1) = g (2 * i + 1)) : tableValue k f i = tableValue k g i := by
  rw [tableValue, tableValue, h0, h1]

/-- A quartet reads the first eight payload bytes. -/
theorem quartet_congr {k : Half} {f g : Nat → Byte} (h : ∀ i < 8, f i = g i) : quartet k f = quartet k g := by
  have hvalue : ∀ i < 4, tableValue k f i = tableValue k g i := fun i hi =>
    tableValue_congr (h (2 * i) (by omega)) (h (2 * i + 1) (by omega))
  rw [quartet, quartet, hvalue 0 (by decide), hvalue 1 (by decide), hvalue 2 (by decide), hvalue 3 (by decide)]

theorem packetComplete_quartet (s : State) (ident : Byte) {payload : List Byte} (low high : Byte)
    (h8 : 8 ≤ payload.length) {k : Half} :
    quartet k (s.packetComplete ident payload low high).dataByte = quartet k (fun i => payload.getD i 0) :=
  quartet_congr fun i hi => by
    have h : i < payload.length := by omega
    rw [packetComplete_dataByte s ident payload low high i h, List.getD_eq_getElem _ _ h]

/-! ## An accepted packet (R203, R231) -/

theorem validate_dataByte (s : State) (k : Nat) : (validate s).dataByte k = s.dataByte k :=
  dataByte_congr (by rw [validate_data]) (validate_resets s)

theorem validate_counts_of_match {s : State} (h : s.crcMatches = true) :
    (validate s).acceptCnt = s.acceptCnt + 1 ∧ (validate s).rejectCnt = s.rejectCnt := by
  cases ha : s.actsOn with
  | false => rw [validate_of_ignored h ha]; exact ⟨rfl, rfl⟩
  | true => rw [validate_of_dispatched h ha]; exact ⟨rfl, rfl⟩

theorem validate_of_recognised {s : State} (h : s.crcMatches = true) (hrec : Recognised s.params s.idByte)
    (hlen : 8 ≤ s.len.toNat) :
    (validate s).out = s.out ++ quartet s.params.offsetK s.dataByte ∧ (validate s).presence = true := by
  rw [validate_of_dispatched h ((actsOn_iff s).mpr ⟨hrec, hlen⟩)]
  simp only [axis_eq_tableValue, quartet, and_self]

theorem validate_of_unrecognised {s : State} (h : s.crcMatches = true)
    (hnot : ¬ Recognised s.params s.idByte ∨ s.len.toNat < 8) :
    (validate s).out = s.out ∧ (validate s).ch = s.ch := by
  have ha : s.actsOn = false := by
    rw [← Bool.not_eq_true, actsOn_iff]
    rintro ⟨hrec, hlen⟩
    exact hnot.elim (fun hn => hn hrec) hlen.not_gt
  rw [validate_of_ignored h ha]
  exact ⟨rfl, rfl⟩

theorem wirePacket_eq (marker ident : Byte) (payload : List Byte) :
    wirePacket marker ident payload = packetBody marker ident payload ++
      [lowByte (crc16 (packetBody marker ident payload)), highByte (crc16 (packetBody marker ident payload))] := rfl

theorem wirePacket_length (marker ident : Byte) (payload : List Byte) :
    (wirePacket marker ident payload).length = payload.length + 5 := by
  simp [wirePacket_eq, packetBody]

/-- Fewer bytes than the whole packet do not reach the last checksum byte. -/
theorem wirePacket_take (marker ident : Byte) (payload : List Byte) {n : Nat} (h : n < payload.length + 5) :
    (wirePacket marker ident payload).take n =
      (packetBody marker ident payload ++ [lowByte (crc16 (packetBody marker ident payload))]).take n := by
  have hbody : (packetBody marker ident payload).length = payload.length + 3 := rfl
  rw [wirePacket_eq, List.append_cons, List.take_append_of_le_length]
  rw [List.length_append, hbody, List.length_singleton]
  omega

/-- Every proper part of a packet leaves the framer inside it. -/
theorem runCommands_wirePacket_take {s : State} (ident : Byte) (payload : List Byte)
    (hfe : s.params.frontEnd = .byte) (hr : s.rxEn = true) (hf : s.fstate = .awaitHeader)
    (hlen : payload.length ≤ 255) {n : Nat} (h0 : 0 < n) (hn : n < payload.length + 5) :
    ∃ t, runCommands (((wirePacket s.params.headerMarker ident payload).take n).map .byte) s = .next t ∧
      InPacketSince s t := by
  obtain ⟨t, ht⟩ := (framesInPacket_packet ident payload
    (lowByte (crc16 (packetBody s.params.headerMarker ident payload))) hf hlen).take n
  rw [← wirePacket_take _ _ _ hn] at ht
  refine ⟨t, ht.runCommands_eq hfe hr, ht.inPacketSince fun hnil => ?_⟩
  have := congrArg List.length hnil
  rw [List.length_take, wirePacket_length, List.length_nil] at this
  omega

/-- Settles O43: the framer stays inside the packet to its last byte, `Validate()` then sees the packet's own bytes and
its own CRC, and the dispatcher reads the payload. -/
theorem wirePacketIsAccepted : Obligations.WirePacketIsAccepted := by
  intro s ident payload hfe hr hf hlen
  refine ⟨wirePacket_length _ _ _, fun n h0 hn => ?_, ?_⟩
  · obtain ⟨t, hrun, hin⟩ := runCommands_wirePacket_take ident payload hfe hr hf hlen h0 hn
    exact ⟨t, hrun, hin.started, hin.out_eq, hin.acceptCnt_eq, hin.rejectCnt_eq⟩
  · have hmatch := packetComplete_crcMatches_own s ident hlen
    obtain ⟨haccept, hreject⟩ := validate_counts_of_match hmatch
    refine ⟨_, runCommands_packet ident payload _ _ hfe hr hf hlen, validate_fstate _, haccept, hreject,
      validate_hdr _, validate_idByte _, ?_, fun k h => ?_, fun hrec h8 => ?_, fun hnot => ?_⟩
    · rw [validate_len, packetComplete_len s ident _ _ hlen]
    · rw [validate_dataByte, packetComplete_dataByte s ident payload _ _ k h]
    · rw [← packetComplete_quartet s ident _ _ h8]
      exact validate_of_recognised hmatch hrec (by rwa [packetComplete_len s ident _ _ hlen])
    · exact validate_of_unrecognised hmatch (by rwa [packetComplete_len s ident _ _ hlen])

end Sys2Proof.Machine

/-! SUPPORT. The statements about the encoding (30_encoding.md): decoding undoes encoding and accepts nothing else
(R104, R106), a malformed word and a command of the other front end are illegal (R105 to R107), and the assembler's
words decode (R111). -/

namespace Sys2Proof

/-! ## The bytes of field B, and the operand bits as one field (R101) -/

theorem bHigh_eq (w : CommandWord) : bHigh w = (bField w).extractLsb' 8 8 := by
  rw [bField_eq_append, BitVec.extractLsb'_append_eq_left]

theorem bLow_eq (w : CommandWord) : bLow w = (bField w).setWidth 8 := by
  rw [bField_eq_append, BitVec.setWidth_append_eq_right]

@[simp] theorem bHigh_packWord (op : Byte) (a b : Half) : bHigh (packWord op a b) = b.extractLsb' 8 8 := by
  rw [bHigh_eq, bField_packWord]

@[simp] theorem bLow_packWord (op : Byte) (a b : Half) : bLow (packWord op a b) = b.setWidth 8 := by
  rw [bLow_eq, bField_packWord]

/-- A byte operand in B has a zero byte above it. -/
@[simp] theorem setWidth_high_byte (b : Byte) : (b.setWidth 16).extractLsb' 8 8 = 0#8 := by
  ext i _
  simp

theorem bField_of_bHigh_eq_zero {w : CommandWord} (h : bHigh w = 0#8) : bField w = (bLow w).setWidth 16 := by
  rw [bField_eq_append, h, BitVec.setWidth_eq_append (by decide)]
  rfl

theorem operands_eq_append (w : CommandWord) : w.extractLsb' 0 32 = aField w ++ bField w :=
  (BitVec.extractLsb'_append_extractLsb'_eq_extractLsb' (len₁ := 16) (len₂ := 16) rfl).symm

theorem aField_append_bHigh (w : CommandWord) : w.extractLsb' 8 24 = aField w ++ bHigh w :=
  (BitVec.extractLsb'_append_extractLsb'_eq_extractLsb' (len₁ := 8) (len₂ := 16) rfl).symm

/-! ## Decoding and encoding (R104) -/

theorem decode_encode (i : Instr) : decode (encode i) = .ok i := by
  cases i <;> simp [decode, encode, requireZero]

/-- Every operand bit of an accepted word is read: it is a bit of the operand, or it is checked to be 0. -/
theorem decode_operands {w : CommandWord} {i : Instr} (h : decode w = .ok i) :
    aField (encode i) = aField w ∧ bField (encode i) = bField w := by
  have hop := decode_opcode h
  cases i with
  | byte b =>
    have ⟨⟨ha, hhigh⟩, hlow⟩ : (aField w = 0#16 ∧ bHigh w = 0#8) ∧ bLow w = b := by
      simpa [decode, ← hop, encode, requireZero_eq_ok] using h
    simp [encode, ha, bField_of_bHigh_eq_zero hhigh, hlow]
  | pulse a b | wr a b =>
    have ⟨ha, hb⟩ : aField w = a ∧ bField w = b := by simpa [decode, ← hop, encode] using h
    simp [encode, ha, hb]
  | rd addr =>
    have ⟨hb, ha⟩ : bField w = 0#16 ∧ aField w = addr := by simpa [decode, ← hop, encode, requireZero_eq_ok] using h
    simp [encode, ha, hb]
  | _ =>
    have ⟨ha, hb⟩ : aField w = 0#16 ∧ bField w = 0#16 := by simpa [decode, ← hop, encode, requireZero_eq_ok] using h
    simp [encode, ha, hb]

theorem encode_of_decode {w : CommandWord} {i : Instr} (h : decode w = .ok i) : encode i = w := by
  obtain ⟨ha, hb⟩ := decode_operands h
  rw [← packWord_fields (encode i), decode_opcode h, ha, hb, packWord_fields]

/-- Settles O1: the opcode and both operand fields of an accepted word are those of the command's word, and a word is
its three fields. -/
theorem decodeAcceptsExactlyEncodings : Obligations.DecodeAcceptsExactlyEncodings := fun _ i =>
  ⟨fun h => (encode_of_decode h).symm, fun h => h ▸ decode_encode i⟩

/-- Settles O2: each of the words is its command's word. -/
theorem specWordsDecode : Obligations.SpecWordsDecode :=
  ⟨decode_encode .nop, decode_encode .burst, decode_encode (.pulse 86 129), decode_encode (.byte 0x55),
    decode_encode .hsstart, decode_encode .hstick, decode_encode (.rd 0x000A), decode_encode (.wr 0x0001 40)⟩

/-! ## Malformed words (R105, R106) -/

/-- A reserved opcode (R105), or a field that R102 marks "must be 0" and that is not 0 (R106). -/
def Malformed (w : CommandWord) : Prop :=
  8 ≤ (opField w).toNat ∨
  ((opField w).toNat ∈ [0, 1, 4, 5] ∧ w.extractLsb' 0 32 ≠ 0) ∨
  ((opField w).toNat = 3 ∧ w.extractLsb' 8 24 ≠ 0) ∨
  ((opField w).toNat = 6 ∧ bField w ≠ 0)

/-- Packing a command fills every must-be-zero field with 0. -/
theorem encode_not_malformed (i : Instr) : ¬ Malformed (encode i) := by
  cases i <;> simp [Malformed, operands_eq_append, aField_append_bHigh, encode]

theorem decode_of_malformed {w : CommandWord} (h : Malformed w) : ∃ e, decode w = .error e := by
  cases hd : decode w with
  | error e => exact ⟨e, rfl⟩
  | ok i => exact absurd (encode_of_decode hd ▸ h) (encode_not_malformed i)

end Sys2Proof

namespace Sys2Proof.Machine

theorem step_of_decode_error {s : State} {w : CommandWord} {rest : List PortInput} {e : DecodeError}
    (hlegal : s.params.legal = true) (hp : s.pending = .command w :: rest) (hd : decode w = .error e) :
    step s = endCommand (.next (s.beginCommand rest).raiseIllegalCommand) := by
  simp only [step, if_pos hlegal, hp, takeCommand, runWord, hd]

/-- The command emitted nothing, so there is nothing to record. -/
theorem endCommand_raiseIllegalCommand (s : State) (rest : List PortInput) :
    endCommand (.next (s.beginCommand rest).raiseIllegalCommand) =
      .next { s with pending := rest, out := [], cmdErr := true } := by
  simp [endCommand, State.recordEvents, State.raiseIllegalCommand, State.beginCommand]

/-- Settles O3: a malformed word is no command's word, so the decoder refuses it. -/
theorem malformedWordsRaiseIllegal : Obligations.MalformedWordsRaiseIllegal := by
  intro w hw s rest hlegal hp
  obtain ⟨e, hd⟩ := decode_of_malformed hw
  rw [step_of_decode_error hlegal hp hd, endCommand_raiseIllegalCommand]

/-! ## The other front end (R107) -/

/-- Settles O4: the three commands are those the configured front end does not have. -/
theorem frontEndMismatchRaisesIllegal : Obligations.FrontEndMismatchRaisesIllegal := fun _ =>
  ⟨fun hf => ⟨exec_of_unavailable (by rw [hf]; rfl), fun _ _ => exec_of_unavailable (by rw [hf]; rfl)⟩,
    fun hf _ => exec_of_unavailable (by rw [hf]; rfl)⟩

/-! ## The assembler (R111) -/

/-- The assembler's words are the words of the commands its lines stand for. -/
theorem assemble_eq_ok {text : List Char} {ws : List CommandWord} (h : assemble text = .ok ws) :
    ∃ ls is, parseLines (splitLines text []) = .ok ls ∧ expandLines Config.unitReset.toNat ls = .ok is ∧
      ws = is.map encode := by
  unfold assemble at h
  split at h
  · cases h
  · split at h
    · cases h
    · cases h
      exact ⟨_, _, ‹_›, ‹_›, rfl⟩

/-- Settles O5: every assembled word is the word of a command. -/
theorem assembledWordsDecode : Obligations.AssembledWordsDecode := by
  intro text ws h w hw
  obtain ⟨_, is, _, _, rfl⟩ := assemble_eq_ok h
  obtain ⟨i, _, rfl⟩ := List.mem_map.mp hw
  exact ⟨i, decode_encode i⟩

end Sys2Proof.Machine

/-! SUPPORT. The statements about the recoverer (40_pulse_recoverer.md): the inverse transform round-trips (R139), one
pulse (R131 to R137), BURST (R130), and what each command leaves unchanged. -/

namespace Sys2Proof.Machine

/-! ## Runs of equal bits (R139) -/

theorem runLength_of_bit {v : Byte} {b : Bool} (n : Nat) {i : Nat} (hi : i < 8) (hbit : v.getLsbD i = b) :
    runLength v b (n + 1) i = runLength v b n (i + 1) + 1 := by
  rw [runLength, if_pos]
  rw [decide_eq_true hi, Bool.true_and, beq_iff_eq, hbit]

theorem runLength_of_no_bit {v : Byte} {b : Bool} (n : Nat) {i : Nat} (h : ¬ (i < 8 ∧ v.getLsbD i = b)) :
    runLength v b (n + 1) i = 0 := by
  rw [runLength, if_neg]
  rwa [Bool.and_eq_true, decide_eq_true_eq, beq_iff_eq]

/-- A run ends at bit 8 at the latest. -/
theorem add_runLength_le (v : Byte) (b : Bool) (n : Nat) {i : Nat} (h : i ≤ 8) : i + runLength v b n i ≤ 8 := by
  induction n generalizing i with
  | zero => exact h
  | succ n ih =>
    by_cases hbit : i < 8 ∧ v.getLsbD i = b
    · obtain ⟨hi, hbit⟩ := hbit
      rw [runLength_of_bit n hi hbit, Nat.add_comm _ 1, ← Nat.add_assoc]
      exact ih hi
    · rwa [runLength_of_no_bit n hbit]

theorem getLsbD_of_runLength {v : Byte} {b : Bool} {n i j : Nat} (hij : i ≤ j) (hj : j < i + runLength v b n i) :
    v.getLsbD j = b := by
  induction n generalizing i with
  | zero => exact absurd hj hij.not_gt
  | succ n ih =>
    by_cases hbit : i < 8 ∧ v.getLsbD i = b
    · obtain ⟨hi, hbit⟩ := hbit
      rcases hij.eq_or_lt with rfl | hlt
      · exact hbit
      · rw [runLength_of_bit n hi hbit, Nat.add_comm _ 1, ← Nat.add_assoc] at hj
        exact ih hlt hj
    · rw [runLength_of_no_bit n hbit] at hj
      exact absurd hj hij.not_gt

theorem runLength_pos {v : Byte} {b : Bool} (n : Nat) {i : Nat} (hi : i < 8) (hbit : v.getLsbD i = b) :
    0 < runLength v b (n + 1) i := by
  rw [runLength_of_bit n hi hbit]
  exact Nat.succ_pos _

/-- A bit is a 0 or a 1: a run of zeros and then a run of ones takes at least one bit. -/
theorem runs_pos (v : Byte) {i : Nat} (hi : i < 8) :
    0 < runLength v false 8 i + runLength v true 8 (i + runLength v false 8 i) := by
  rcases Nat.eq_zero_or_pos (runLength v false 8 i) with hz | hz
  · have hone : v.getLsbD i = true := by
      by_contra hbit
      exact (runLength_pos 7 hi (Bool.eq_false_iff.mpr hbit)).ne' hz
    rw [hz]
    exact Nat.add_pos_right 0 (runLength_pos 7 hi hone)
  · omega

/-! ## The bits recovered so far (R133) -/

/-- The bits of `v` below bit `i`: what the accumulator holds when the cursor is at `i`. -/
def lowBits (v : Byte) (i : Nat) : Byte := (v.setWidth i).setWidth 8

@[simp] theorem lowBits_getLsbD (v : Byte) (i j : Nat) :
    (lowBits v i).getLsbD j = (decide (j < i) && v.getLsbD j) := by
  by_cases hj : j < 8
  · simp [lowBits, hj]
  · simp [lowBits, hj, BitVec.getLsbD_of_ge v j (by omega)]

theorem lowBits_zero (v : Byte) : lowBits v 0 = 0#8 :=
  BitVec.eq_of_getLsbD_eq fun j _ => by simp

theorem lowBits_eight (v : Byte) : lowBits v 8 = v :=
  BitVec.eq_of_getLsbD_eq fun j hj => by rw [lowBits_getLsbD, decide_eq_true hj, Bool.true_and]

/-- A run of `z` zeros and a run of `o` ones, both of `v`, bring the next `z + o` bits of `v`. -/
theorem lowBits_or_onesMask {v : Byte} {i z o : Nat} (hz : ∀ j, i ≤ j → j < i + z → v.getLsbD j = false)
    (ho : ∀ j, i + z ≤ j → j < i + z + o → v.getLsbD j = true) :
    lowBits v i ||| onesMask o (i + z) = lowBits v (i + z + o) := by
  refine BitVec.eq_of_getLsbD_eq fun j hj => ?_
  rw [BitVec.getLsbD_or, lowBits_getLsbD, lowBits_getLsbD, onesMask_getLsbD]
  rcases lt_or_ge j i with hlow | hlow
  · simp [hlow, show ¬ i + z ≤ j by omega, show j < i + z + o by omega]
  · rcases lt_or_ge j (i + z) with hzero | hzero
    · simp [hz j hlow hzero, show ¬ i + z ≤ j by omega]
    · by_cases hone : j < i + z + o
      · simp [ho j hzero hone, hzero, hone, hj]
      · simp [hone, show ¬ j < i by omega]

/-! ## One pulse -/

theorem or_onesMask_getLsbD (a : Byte) (c h : Nat) {j : Nat} (hj : j < 8) :
    (a ||| onesMask h c).getLsbD j = onesPlaced a c h j := by
  rw [BitVec.getLsbD_or, onesMask_getLsbD, onesPlaced, decide_eq_true hj, Bool.true_and]

theorem toNat_cursor_of_lt {c : Nat} (h : c < 8) : (BitVec.ofNat 3 c).toNat = c := by
  rw [BitVec.toNat_ofNat, Nat.mod_eq_of_lt h]

/-- The framer leaves the accumulator and the cursor alone. -/
theorem FrameEffect.accumulator_eq {b : Byte} {s t : State} (h : FrameEffect b s t) :
    t.acc = s.acc ∧ t.cursor = s.cursor := by
  cases h with
  | secondChecksum => exact ⟨validate_acc _, validate_cursor _⟩
  | _ => exact ⟨rfl, rfl⟩

theorem validate_emits_writes (s : State) :
    ∃ writes, (validate s).out = s.out ++ writes ∧ ∀ e ∈ writes, e.isChWrite = true := by
  cases hm : s.crcMatches with
  | false => rw [validate_of_mismatch hm]; exact ⟨[], by simp, by simp⟩
  | true =>
    cases ha : s.actsOn with
    | false => rw [validate_of_ignored hm ha]; exact ⟨[], by simp, by simp⟩
    | true => rw [validate_of_dispatched hm ha]; exact ⟨_, rfl, by simp [Event.isChWrite]⟩

/-- All that a framer step can emit is channel writes. -/
theorem FrameEffect.emits_writes {b : Byte} {s t : State} (h : FrameEffect b s t) :
    ∃ writes, t.out = s.out ++ writes ∧ ∀ e ∈ writes, e.isChWrite = true := by
  cases h with
  | secondChecksum => exact validate_emits_writes (s.checksumComplete b)
  | _ => exact ⟨[], by simp, by simp⟩

/-! ## The round trip (R139) -/

/-- The durations of a pulse fall in the units of a pair of `Encode(v, u)`. -/
def FallsInUnits (u : Nat) (p : Half × Half) (q : Nat × Nat) : Prop :=
  (q.1 ≤ p.1.toNat ∧ p.1.toNat < q.1 + u) ∧ (q.2 ≤ p.2.toNat ∧ p.2.toNat < q.2 + u)

/-- The command that gives the core one pulse. -/
def pulseOf (p : Half × Half) : Instr := .pulse p.1 p.2

/-- A duration inside the unit that begins at `n * u` counts as `n` units (R132). -/
theorem durationUnits_of_inUnit {d u : Half} {n : Nat} (hlow : n * u.toNat ≤ d.toNat)
    (hhigh : d.toNat < n * u.toNat + u.toNat) : durationUnits d u = n := by
  have hne : u ≠ 0 := by
    rintro rfl
    exact absurd hhigh (by simp)
  rw [durationUnits_of_ne d u hne]
  exact Nat.div_eq_of_lt_le hlow (by rwa [Nat.succ_mul])

theorem FallsInUnits.durationUnits_eq {u : Half} {p : Half × Half} {z o : Nat}
    (h : FallsInUnits u.toNat p (z * u.toNat, o * u.toNat)) :
    durationUnits p.1 u = z ∧ durationUnits p.2 u = o := by
  obtain ⟨⟨hz, hz'⟩, ho, ho'⟩ := h
  exact ⟨durationUnits_of_inUnit hz hz', durationUnits_of_inUnit ho ho'⟩

/-- The recoverer has taken the bits of `v` below bit `i`. -/
def State.recovered (s : State) (v : Byte) (i : Nat) : State :=
  { s with acc := lowBits v i, cursor := BitVec.ofNat 3 i }

theorem recovered_zero (s : State) (v : Byte) : s.recovered v 0 = s.clearAccumulator := by
  rw [State.recovered, lowBits_zero]
  rfl

theorem clearAccumulator_of_empty {s : State} (hcursor : s.cursor = 0) (hacc : s.acc = 0) :
    s.clearAccumulator = s := by
  rw [State.clearAccumulator, ← hcursor, ← hacc]

/-- From bit `i` of `v` on, the pulses complete `v`: only the last one emits, and it gives `v` to the framer. -/
def Recovers (s : State) (v : Byte) (i : Nat) (pulses : List (Half × Half)) : Prop :=
  (∀ n < pulses.length, ∃ j,
    runCommands ((pulses.take n).map pulseOf) (s.recovered v i) = .next (s.recovered v j)) ∧
  runCommands (pulses.map pulseOf) (s.recovered v i) = frameStep v (s.pulseEmitted v)

theorem runCommands_singleton (i : Instr) (s : State) : runCommands [i] s = exec i s := by
  simp only [runCommands]
  cases exec i s <;> rfl

theorem runCommands_cons_of_next {i : Instr} {s t : State} (is : List Instr) (h : exec i s = .next t) :
    runCommands (i :: is) s = runCommands is t := by
  simp only [runCommands, h]

theorem Recovers.last {s : State} {v : Byte} {i : Nat} {p : Half × Half}
    (h : exec (pulseOf p) (s.recovered v i) = frameStep v (s.pulseEmitted v)) : Recovers s v i [p] := by
  refine ⟨fun n hn => ?_, (runCommands_singleton _ _).trans h⟩
  obtain rfl : n = 0 := Nat.lt_one_iff.mp hn
  exact ⟨i, rfl⟩

theorem Recovers.cons {s : State} {v : Byte} {i j : Nat} {p : Half × Half} {ps : List (Half × Half)}
    (h : exec (pulseOf p) (s.recovered v i) = .next (s.recovered v j)) (hps : Recovers s v j ps) :
    Recovers s v i (p :: ps) := by
  obtain ⟨hpart, hwhole⟩ := hps
  refine ⟨fun n hn => ?_, (runCommands_cons_of_next _ h).trans hwhole⟩
  cases n with
  | zero => exact ⟨i, rfl⟩
  | succ n =>
    obtain ⟨k, hk⟩ := hpart n (Nat.lt_of_succ_lt_succ hn)
    exact ⟨k, (runCommands_cons_of_next _ h).trans hk⟩

/-- A pair that brings the next bits of `v` moves on by its zeros and its ones, or gives the byte to the framer. -/
theorem exec_pulseOf_recovered {s : State} {v : Byte} {i z o : Nat} {p : Half × Half}
    (hf : s.params.frontEnd = .pulse) (hr : s.rxEn = true) (hi : i < 8)
    (hp : FallsInUnits s.unit.toNat p (z * s.unit.toNat, o * s.unit.toNat))
    (hbits : lowBits v i ||| onesMask o (i + z) = lowBits v (i + z + o)) :
    exec (pulseOf p) (s.recovered v i) =
      if 8 ≤ i + z + o then frameStep (lowBits v (i + z + o)) (s.pulseEmitted (lowBits v (i + z + o)))
      else .next (s.recovered v (i + z + o)) := by
  obtain ⟨hlow, hhigh⟩ : durationUnits p.1 (s.recovered v i).unit = z ∧ durationUnits p.2 (s.recovered v i).unit = o :=
    hp.durationUnits_eq
  have hcursor : (s.recovered v i).cursor.toNat = i := toNat_cursor_of_lt hi
  have hacc : (s.recovered v i).acc = lowBits v i := rfl
  split
  case isTrue hlong =>
    have hexec := execPulse_of_long (s := s.recovered v i) (low := p.1) (high := p.2) hf hr
    rw [hcursor, hlow, hhigh, hacc, hbits] at hexec
    exact hexec hlong
  case isFalse hshort =>
    have hexec := execPulse_of_short (s := s.recovered v i) (low := p.1) (high := p.2) hf hr
    rw [hcursor, hlow, hhigh, hacc, hbits] at hexec
    exact hexec (Nat.lt_of_not_le hshort)

/-- The pairs of `Encode(v, u)` from bit `i` on complete `v`: each takes the next zeros and the next ones of `v`, and
`n` pairs are enough where `n` bits are left. -/
theorem recovers_pairsFrom {s : State} (v : Byte) (hf : s.params.frontEnd = .pulse) (hr : s.rxEn = true) (n : Nat)
    {i : Nat} {pulses : List (Half × Half)} (hi : i < 8) (hn : 8 ≤ n + i)
    (hp : List.Forall₂ (FallsInUnits s.unit.toNat) pulses (pairsFrom v s.unit.toNat n i)) :
    Recovers s v i pulses := by
  induction n generalizing i pulses with
  | zero => omega
  | succ n ih =>
    simp only [pairsFrom, if_pos hi] at hp
    have hpos := runs_pos v hi
    have hle := add_runLength_le v true 8 (add_runLength_le v false 8 hi.le)
    have hbits := lowBits_or_onesMask (v := v) (i := i) (fun _ => getLsbD_of_runLength (b := false) (n := 8))
      (fun _ => getLsbD_of_runLength (b := true) (n := 8))
    generalize runLength v false 8 i = z at *
    generalize runLength v true 8 (i + z) = o at *
    cases hp with
    | cons hfirst hrest =>
      have hexec := exec_pulseOf_recovered hf hr hi hfirst hbits
      rcases hle.lt_or_eq with hend | hend
      · rw [if_neg hend.not_ge] at hexec
        exact .cons hexec (ih hend (by omega) hrest)
      · rw [hend, if_pos le_rfl, lowBits_eight] at hexec
        have hnil : pairsFrom v s.unit.toNat n 8 = [] := by cases n <;> rfl
        rw [hend, hnil] at hrest
        cases hrest
        exact .last hexec

/-- Settles O24: from bit 0 on, the pulses take `v` run by run, and only the last one reaches bit 8. -/
theorem inverseTransformRoundTrips : Obligations.InverseTransformRoundTrips := by
  rintro s v _ pulses hf hr hcursor hacc rfl _ _ hp
  have hempty := clearAccumulator_of_empty hcursor hacc
  have hstart : s.recovered v 0 = s := (recovered_zero s v).trans hempty
  have hemit : s.pulseEmitted v = s.emit (.byteOut v) := congrArg (State.emit _) hempty
  obtain ⟨hpart, hwhole⟩ := recovers_pairsFrom v hf hr 8 (by omega) le_rfl hp
  rw [hstart] at hpart hwhole
  rw [hemit] at hwhole
  refine ⟨fun n hn => ?_, hwhole⟩
  obtain ⟨j, hj⟩ := hpart n hn
  exact ⟨_, _, hj⟩

/-! ## One PULSE (R131 to R137) and BURST (R130) -/

/-- Settles O22: the accumulator takes the mask of the ones, and a cursor below 8 fits its three bits. -/
theorem pulseBelowEightAccumulates : Obligations.PulseBelowEightAccumulates := by
  intro s low high hf hr hu hc
  simp only [← durationUnits_of_ne _ _ hu] at hc ⊢
  exact ⟨_, _, execPulse_of_short hf hr hc, toNat_cursor_of_lt hc, fun _ hj => or_onesMask_getLsbD _ _ _ hj⟩

/-- Settles O23: the framer step completes, keeps the cleared accumulator and emits only channel writes. -/
theorem pulseReachingEightEmitsOneByte : Obligations.PulseReachingEightEmitsOneByte := by
  intro s low high hf hr hu hc hv hd
  simp only [← durationUnits_of_ne _ _ hu] at hc ⊢
  obtain ⟨t, hstep⟩ := frameStep_completes
    (s.acc ||| onesMask (durationUnits high s.unit) (s.cursor.toNat + durationUnits low s.unit))
    (s.pulseEmitted (s.acc ||| onesMask (durationUnits high s.unit) (s.cursor.toNat + durationUnits low s.unit)))
    hv hd
  have heffect := frameStep_effect hstep
  obtain ⟨hacc, hcursor⟩ := heffect.accumulator_eq
  obtain ⟨writes, hout, hwrites⟩ := heffect.emits_writes
  refine ⟨_, t, writes, fun _ hj => or_onesMask_getLsbD _ _ _ hj, (execPulse_of_long hf hr hc).trans hstep, hstep,
    hacc, hcursor, ?_, hwrites⟩
  rw [hout, State.pulseEmitted, List.append_assoc, List.singleton_append]

/-- Settles O20: BURST does not look at RX_EN. -/
theorem burstClearsAccumulator : Obligations.BurstClearsAccumulator := fun _ hf => exec_of_effect (.burst hf)

/-- Settles O21: the receive gate stands before the recoverer and before the framer. -/
theorem disabledInputIsDropped : Obligations.DisabledInputIsDropped := fun _ hr =>
  ⟨fun hf low high => exec_of_effect (.pulseDropped low high hf hr), fun hf b => exec_of_effect (.byteDropped b hf hr)⟩

/-! ## What NOP, BURST, HSTICK, RD and WR leave unchanged -/

/-- The command can give something to the framer, or starts it anew. -/
def reachesFramer : Instr → Bool
  | .pulse _ _ => true
  | .byte _ => true
  | .hsstart => true
  | .nop => false
  | .burst => false
  | .hstick => false
  | .rd _ => false
  | .wr _ _ => false

@[simp] theorem State.pollTick_acc (s : State) : s.pollTick.acc = s.acc := by rw [pollTick_frame]

@[simp] theorem State.pollTick_cursor (s : State) : s.pollTick.cursor = s.cursor := by rw [pollTick_frame]

@[simp] theorem State.pollTick_unit (s : State) : s.pollTick.unit = s.unit := by rw [pollTick_frame]

/-- The accumulator, the handshake, RX_EN, UNIT, CMD_ERR and the events are all that a command can change which does not
reach the framer. -/
theorem ExecEffect.frame_of_not_reachesFramer {i : Instr} {s t : State} (h : ExecEffect s i t)
    (hi : reachesFramer i = false) :
    t = { s with
      acc := t.acc, cursor := t.cursor, hsState := t.hsState, hsCount := t.hsCount, rxEn := t.rxEn, unit := t.unit,
      cmdErr := t.cmdErr, out := t.out } := by
  cases h with
  | pulseDropped | pulseShort | pulseByte | byteDropped | byteFramed | hsstart => cases hi
  | hstickPolls =>
    simp only [State.pollTick_acc, State.pollTick_cursor, State.pollTick_unit, State.pollTick_cmdErr]
    exact pollTick_frame s
  | _ => rfl

theorem ExecEffect.accumulator_eq {i : Instr} {s t : State} (h : ExecEffect s i t) (hi : reachesFramer i = false)
    (hburst : i ≠ .burst) : t.acc = s.acc ∧ t.cursor = s.cursor := by
  cases h with
  | pulseDropped | pulseShort | pulseByte | byteDropped | byteFramed | hsstart => cases hi
  | burst => exact absurd rfl hburst
  | hstickPolls => exact ⟨State.pollTick_acc s, State.pollTick_cursor s⟩
  | _ => exact ⟨rfl, rfl⟩

theorem ExecEffect.handshake_eq {i : Instr} {s t : State} (h : ExecEffect s i t) (hi : reachesFramer i = false)
    (htick : i ≠ .hstick) : t.hsState = s.hsState ∧ t.hsCount = s.hsCount := by
  cases h with
  | pulseDropped | pulseShort | pulseByte | byteDropped | byteFramed | hsstart => cases hi
  | hstickPolls => exact absurd rfl htick
  | _ => exact ⟨rfl, rfl⟩

theorem ExecEffect.rxEn_eq {i : Instr} {s t : State} (h : ExecEffect s i t) (hi : reachesFramer i = false)
    (htick : i ≠ .hstick) (hctrl : ∀ d, i ≠ .wr 0x0000 d) : t.rxEn = s.rxEn := by
  cases h with
  | pulseDropped | pulseShort | pulseByte | byteDropped | byteFramed | hsstart => cases hi
  | hstickPolls => exact absurd rfl htick
  | wrCtrl addr data hr => exact absurd (congrArg (Instr.wr · data) (regAt_eq_some.mp hr)) (hctrl data)
  | _ => rfl

theorem ExecEffect.unit_eq {i : Instr} {s t : State} (h : ExecEffect s i t) (hi : reachesFramer i = false)
    (hunit : ∀ d, i ≠ .wr 0x0001 d) : t.unit = s.unit := by
  cases h with
  | pulseDropped | pulseShort | pulseByte | byteDropped | byteFramed | hsstart => cases hi
  | hstickPolls => exact State.pollTick_unit s
  | wrUnit addr data hr => exact absurd (congrArg (Instr.wr · data) (regAt_eq_some.mp hr)) (hunit data)
  | _ => rfl

/-- Settles O54, by what a command that does not reach the framer can change at all, and which of them change it. -/
theorem registerAndTimerCommandsFrame : Obligations.RegisterAndTimerCommandsFrame := by
  intro i s t hexec hcommand
  have hi : reachesFramer i = false := by
    rcases hcommand with rfl | rfl | rfl | ⟨_, rfl⟩ | ⟨_, _, rfl⟩ <;> rfl
  have heffect := exec_effect hexec
  have hacc := heffect.accumulator_eq hi
  have hhs := heffect.handshake_eq hi
  have hrx := heffect.rxEn_eq hi
  have hunit := heffect.unit_eq hi
  rw [heffect.frame_of_not_reachesFramer hi]
  exact ⟨rfl, rfl, rfl, rfl, rfl, fun _ => rfl, rfl, rfl, rfl, rfl, rfl, rfl, rfl, rfl, hacc, hhs, hrx, hunit, rfl,
    rfl, rfl⟩

/-! ## What PULSE and BYTE leave unchanged -/

/-- What no arm of the recoverer and no arm of the framer writes. -/
structure KeepsSession (s t : State) : Prop where
  rxEn_eq : t.rxEn = s.rxEn
  unit_eq : t.unit = s.unit
  hsState_eq : t.hsState = s.hsState
  hsCount_eq : t.hsCount = s.hsCount
  pending_eq : t.pending = s.pending
  history_eq : t.history = s.history
  resets_eq : t.resets = s.resets

theorem KeepsSession.refl (s : State) : KeepsSession s s := ⟨rfl, rfl, rfl, rfl, rfl, rfl, rfl⟩

theorem validate_keepsSession (s : State) : KeepsSession s (validate s) where
  rxEn_eq := validate_rxEn s
  unit_eq := validate_unit s
  hsState_eq := validate_hsState s
  hsCount_eq := validate_hsCount s
  pending_eq := validate_pending s
  history_eq := validate_history s
  resets_eq := validate_resets s

theorem FrameEffect.keepsSession {b : Byte} {s t : State} (h : FrameEffect b s t) : KeepsSession s t := by
  cases h with
  | secondChecksum => exact { validate_keepsSession (s.checksumComplete b) with }
  | _ => exact { KeepsSession.refl s with }

/-- The framer stores at DIDX and nowhere else, and only a payload byte (R165). -/
theorem FrameEffect.dataByte_eq {b : Byte} {s t : State} {k : Nat} (h : FrameEffect b s t)
    (hk : ¬ (s.fstate = .awaitData ∧ k = s.didx.toNat)) : t.dataByte k = s.dataByte k := by
  cases h with
  | payload hf | lastPayload hf =>
    have hne : s.didx.toNat ≠ k := fun heq => hk ⟨hf, heq.symm⟩
    exact dataByte_congr ((lookupCell_storeCell _ _ _ _).trans (if_neg hne)) rfl
  | secondChecksum => exact validate_dataByte _ k
  | _ => rfl

/-- A command that a front end takes. -/
def isReceive : Instr → Bool
  | .pulse _ _ => true
  | .byte _ => true
  | .hsstart => false
  | .nop => false
  | .burst => false
  | .hstick => false
  | .rd _ => false
  | .wr _ _ => false

theorem ExecEffect.keepsSession_of_isReceive {i : Instr} {s t : State} (h : ExecEffect s i t)
    (hi : isReceive i = true) : KeepsSession s t := by
  cases h with
  | mismatch | pulseDropped | pulseShort | byteDropped => exact { KeepsSession.refl s with }
  | pulseByte _ _ _ _ _ _ hframe => exact { hframe.keepsSession with }
  | byteFramed _ _ _ _ hframe => exact hframe.keepsSession
  | _ => cases hi

theorem ExecEffect.cmdErr_eq_of_isReceive {i : Instr} {s t : State} (h : ExecEffect s i t)
    (hi : isReceive i = true) (havailable : i.availableIn s.params.frontEnd = true) : t.cmdErr = s.cmdErr := by
  cases h with
  | mismatch _ hno => cases hno.symm.trans havailable
  | pulseDropped | pulseShort | byteDropped => rfl
  | pulseByte _ _ _ _ _ _ hframe => exact hframe.cmdErr_eq
  | byteFramed _ _ _ _ hframe => exact hframe.cmdErr_eq
  | _ => cases hi

theorem ExecEffect.dataByte_eq_of_isReceive {i : Instr} {s t : State} {k : Nat} (h : ExecEffect s i t)
    (hi : isReceive i = true) (hk : ¬ (s.fstate = .awaitData ∧ k = s.didx.toNat)) : t.dataByte k = s.dataByte k := by
  cases h with
  | mismatch | pulseDropped | pulseShort | byteDropped => rfl
  | pulseByte _ _ _ _ _ _ hframe => exact hframe.dataByte_eq hk
  | byteFramed _ _ _ _ hframe => exact hframe.dataByte_eq hk
  | _ => cases hi

/-- BYTE does not touch the recoverer (R160). -/
theorem ExecEffect.accumulator_eq_of_byte {b : Byte} {s t : State} (h : ExecEffect s (.byte b) t) :
    t.acc = s.acc ∧ t.cursor = s.cursor := by
  cases h with
  | byteFramed _ _ _ _ hframe => exact hframe.accumulator_eq
  | _ => exact ⟨rfl, rfl⟩

/-- Settles O55, by what a PULSE or a BYTE can do: dropped, taken into the accumulator, or one framer step. -/
theorem receiveCommandsFrame : Obligations.ReceiveCommandsFrame := by
  intro i s t hexec hcommand
  have hi : isReceive i = true := by
    rcases hcommand with ⟨_, _, rfl⟩ | ⟨_, rfl⟩ <;> rfl
  have heffect := exec_effect hexec
  have hkeeps := heffect.keepsSession_of_isReceive hi
  refine ⟨hkeeps.rxEn_eq, hkeeps.unit_eq, hkeeps.hsState_eq, hkeeps.hsCount_eq, heffect.cmdErr_eq_of_isReceive hi,
    fun k hk => heffect.dataByte_eq_of_isReceive hi hk, ?_, hkeeps.pending_eq, hkeeps.history_eq, hkeeps.resets_eq⟩
  rintro ⟨b, rfl⟩
  exact heffect.accumulator_eq_of_byte

end Sys2Proof.Machine

/-! SUPPORT. The statements about the framer (41_byte_framer.md): what one byte does in each state (R162 to R167), and
the bytes dropped between packets (R169). -/

namespace Sys2Proof.Machine

/-! ## One byte in each state (R162 to R167) -/

/-- The framer step and a BYTE that reaches it have the same effect (R160). -/
theorem FrameEffect.framesTo {b : Byte} {s t : State} (h : FrameEffect b s t) : FramesTo b s t :=
  ⟨frameStep_of_effect h, fun hfe hr => exec_of_effect (.byteFramed b t hfe hr h)⟩

/-- Settles O25: the two effects a byte can have in AwaitHeader. -/
theorem headerSearch : Obligations.HeaderSearch := fun _ _ hf =>
  ⟨fun hmarker => (FrameEffect.marker hf hmarker).framesTo, fun hnoise => (FrameEffect.noise hf hnoise).framesTo⟩

/-- Settles O26: AwaitId does not look at the byte. -/
theorem idByteStored : Obligations.IdByteStored := fun _ _ hf => (FrameEffect.ident hf).framesTo

/-- Settles O27: the two effects a byte can have in AwaitLength. -/
theorem lengthByteStored : Obligations.LengthByteStored := by
  intro s b hf
  refine ⟨fun hempty => ?_, fun hlength => (FrameEffect.length hf hlength).framesTo⟩
  subst hempty
  exact (FrameEffect.emptyLength hf rfl).framesTo

/-- Settles O29: the byte falls through to the checksum with a cleared accumulator. -/
theorem trailerByteIsFirstChecksumByte : Obligations.TrailerByteIsFirstChecksumByte := fun _ _ hf =>
  (FrameEffect.trailer hf).framesTo

/-- Settles O30: at CKIDX = 0 the byte is not shifted. -/
theorem firstChecksumByteStored : Obligations.FirstChecksumByteStored := fun _ _ hf hk =>
  (FrameEffect.firstChecksum hf hk).framesTo

/-! ## A payload byte (R165) -/

/-- The two effects of a payload byte as one next state. -/
theorem payloadByte_effect {s : State} (b : Byte) (hf : s.fstate = .awaitData) (hi : s.didx.toNat < Config.payloadCap) :
    FrameEffect b s { s with
      data := storeCell s.data s.didx.toNat b, didx := s.didx + 1,
      fstate := if s.didx + 1 = s.len then .awaitTrailer else .awaitData } := by
  by_cases hlast : s.didx + 1 = s.len
  · rw [if_pos hlast]
    exact .lastPayload hf hi hlast
  · rw [if_neg hlast, ← hf]
    exact .payload hf hi hlast

/-- DATA after a write: the written byte at its index, every other byte as it was (R14). -/
theorem dataByte_of_storeCell {s t : State} {i : Nat} {b : Byte} (hd : t.data = storeCell s.data i b)
    (hr : t.resets = s.resets) (a : Nat) : t.dataByte a = if i = a then b else s.dataByte a := by
  rw [State.dataByte, hd, hr, lookupCell_storeCell]
  split
  · rfl
  · rfl

/-- Settles O28: the byte is stored at DIDX, and `dataByte_of_storeCell` says what DATA then reads as. -/
theorem payloadByteAppended : Obligations.PayloadByteAppended := by
  intro s b hf hi
  refine ⟨_, (payloadByte_effect b hf hi).framesTo, fun t hd hr => ?_⟩
  have hread := dataByte_of_storeCell hd hr
  exact ⟨(hread _).trans (if_pos rfl), fun a ha => (hread a).trans (if_neg ha.symm)⟩

/-! ## Bytes between packets (R169) -/

/-- Settles O32, by induction on the bytes: each of them leaves the state as it is. -/
theorem noiseIsDropped : Obligations.NoiseIsDropped := by
  intro s noise hfe hr hf hnoise
  induction noise with
  | nil => rfl
  | cons b noise ih =>
    obtain ⟨hb, hrest⟩ := List.forall_mem_cons.mp hnoise
    rw [List.map_cons, runCommands_byte _ hfe hr (.noise hf hb)]
    exact ih hrest

end Sys2Proof.Machine

/-! SUPPORT. The statements about the CRC and the validator (42_crc_validator.md): values of the CRC (R200, R201) and
the changes it detects (R207), two outcomes of the second checksum byte (R203), and when a channel is written (R206)
and a counter moves (R204). -/

namespace Sys2Proof.Machine

/-! ## The CRC (R200, R201, R207) -/

/-- Settles O33, by running the bit steps of R200 on the strings. -/
theorem crcCheckValues : Obligations.CrcCheckValues := by
  refine ⟨rfl, ?_, ?_, ?_⟩
  all_goals simp [crc16, crcByte, crcBit]

/-- Settles O35: the registers differ right after the changed byte and stay different over the equal bytes that
follow. -/
theorem crcDetectsOneChangedByte : Obligations.CrcDetectsOneChangedByte := by
  intro before after x y hne heq
  rw [crc16_append, crc16_append, List.foldl_cons, List.foldl_cons] at heq
  exact hne (crcByte_injective_byte (foldl_crcByte_injective after heq))

/-! ## One flipped bit (R207) -/

theorem xor_twoPow_ne (x : Byte) {j : Nat} (hj : j < 8) : x ^^^ BitVec.twoPow 8 j ≠ x := by
  intro h
  have hbit := congrArg (fun v => v.getLsbD j) h
  simp [hj] at hbit

theorem flipBit_append_left (bytes rest : List Byte) (j : Nat) {k : Nat} (hk : k < bytes.length) :
    flipBit (bytes ++ rest) k j = flipBit bytes k j ++ rest := by
  induction bytes generalizing k with
  | nil => cases hk
  | cons b bytes ih =>
    cases k with
    | zero => rfl
    | succ k => exact congrArg (b :: ·) (ih (Nat.lt_of_succ_lt_succ hk))

theorem flipBit_append_right (bytes rest : List Byte) (k j : Nat) :
    flipBit (bytes ++ rest) (k + bytes.length) j = bytes ++ flipBit rest k j := by
  induction bytes with
  | nil => rfl
  | cons b bytes ih => exact congrArg (b :: ·) ih

/-- A flipped bit is one changed byte. -/
theorem crc16_flipBit_ne (bytes : List Byte) {k j : Nat} (hk : k < bytes.length) (hj : j < 8) :
    crc16 (flipBit bytes k j) ≠ crc16 bytes := by
  have hsplit : bytes = bytes.take k ++ bytes[k] :: bytes.drop (k + 1) := by simp
  have hflip : flipBit bytes k j = bytes.take k ++ (bytes[k] ^^^ BitVec.twoPow 8 j) :: bytes.drop (k + 1) :=
    List.modify_eq_take_cons_drop hk
  intro heq
  exact crcDetectsOneChangedByte _ _ _ _ (xor_twoPow_ne bytes[k] hj)
    ((congrArg crc16 hflip).symm.trans (heq.trans (congrArg crc16 hsplit)))

/-- A flip in the id or in the payload leaves a packet body of the same length. -/
theorem flipBit_packetBody (marker ident : Byte) (payload : List Byte) {k : Nat} (j : Nat) (hk : k = 1 ∨ 3 ≤ k) :
    ∃ ident' payload', payload'.length = payload.length ∧
      flipBit (packetBody marker ident payload) k j = packetBody marker ident' payload' := by
  rcases hk with rfl | h3
  · exact ⟨ident ^^^ BitVec.twoPow 8 j, payload, rfl, rfl⟩
  · obtain ⟨i, rfl⟩ := Nat.exists_eq_add_of_le' h3
    refine ⟨ident, flipBit payload i j, List.length_modify _ _ _, ?_⟩
    simp only [flipBit, packetBody, List.modify_succ_cons, List.length_modify]

/-- The two checksum bytes are read back from the checksum (R72). -/
theorem checksumBytes_injective {low high low' high' : Byte}
    (h : (low.setWidth 16 ||| high.setWidth 16 <<< 8 : Half) = low'.setWidth 16 ||| high'.setWidth 16 <<< 8) :
    low = low' ∧ high = high' := by
  have hnat := congrArg BitVec.toNat h
  simp only [littleEndian_eq, BitVec.toNat_ofNat] at hnat
  have hlow := low.isLt
  have hhigh := high.isLt
  have hlow' := low'.isLt
  have hhigh' := high'.isLt
  exact ⟨BitVec.eq_of_toNat_eq (by omega), BitVec.eq_of_toNat_eq (by omega)⟩

/-- A packet with a flipped bit is a packet body with two bytes that are not its checksum: either the CRC of the body
changes and the checksum stays, or the other way round. -/
theorem flipBit_wirePacket (marker ident : Byte) (payload : List Byte) {k j : Nat}
    (hk : k = 1 ∨ (3 ≤ k ∧ k < payload.length + 5)) (hj : j < 8) :
    ∃ (ident' : Byte) (payload' : List Byte) (low high : Byte), payload'.length = payload.length ∧
      flipBit (wirePacket marker ident payload) k j = packetBody marker ident' payload' ++ [low, high] ∧
      crc16 (packetBody marker ident' payload') ≠ low.setWidth 16 ||| high.setWidth 16 <<< 8 := by
  have hbody : (packetBody marker ident payload).length = payload.length + 3 := rfl
  obtain ⟨low, high, hwire, hown⟩ : ∃ low high : Byte,
      wirePacket marker ident payload = packetBody marker ident payload ++ [low, high] ∧
      low.setWidth 16 ||| high.setWidth 16 <<< 8 = crc16 (packetBody marker ident payload) :=
    ⟨_, _, wirePacket_eq _ _ _, lowByte_or_highByte _⟩
  rw [hwire]
  by_cases hin : k < payload.length + 3
  · obtain ⟨ident', payload', hlen, hflip⟩ := flipBit_packetBody marker ident payload j (hk.imp_right And.left)
    refine ⟨ident', payload', low, high, hlen, ?_, ?_⟩
    · rw [flipBit_append_left _ _ _ (hbody ▸ hin), hflip]
    · rw [hown, ← hflip]
      exact crc16_flipBit_ne _ (hbody ▸ hin) hj
  · obtain ⟨i, rfl⟩ := Nat.exists_eq_add_of_le' (Nat.not_lt.mp hin)
    have hi : i = 0 ∨ i = 1 := by omega
    rw [← hbody, flipBit_append_right]
    rcases hi with rfl | rfl
    · exact ⟨ident, payload, low ^^^ BitVec.twoPow 8 j, high, rfl, rfl, fun heq =>
        xor_twoPow_ne low hj (checksumBytes_injective (hown.trans heq)).1.symm⟩
    · exact ⟨ident, payload, low, high ^^^ BitVec.twoPow 8 j, rfl, rfl, fun heq =>
        xor_twoPow_ne high hj (checksumBytes_injective (hown.trans heq)).2.symm⟩

/-- Settles O44: the framer takes the flipped packet as a packet, and `Validate()` sees a checksum that is not its
CRC. -/
theorem singleBitFlipIsRejected : Obligations.SingleBitFlipIsRejected := by
  intro s ident payload k j hfe hr hf hlen hk hj
  obtain ⟨ident', payload', low, high, hlen', hflip, hne⟩ :=
    flipBit_wirePacket s.params.headerMarker ident payload hk hj
  rw [← hlen'] at hlen
  have hmismatch : (s.packetComplete ident' payload' low high).crcMatches = false := by
    rw [packetComplete_crcMatches s ident' low high hlen, beq_eq_false_iff_ne]
    exact hne
  rw [hflip, runCommands_packet ident' payload' low high hfe hr hf hlen, validate_of_mismatch hmismatch]
  exact ⟨_, rfl, rfl, rfl, rfl, rfl, rfl, rfl⟩

/-! ## The second checksum byte (R167, R203) -/

/-- The second checksum byte is the high byte of CK. -/
theorem checksumComplete_of_second {s : State} (b : Byte) (hk : s.ckidx = 1) :
    s.checksumComplete b =
      { s with ck := s.ck ||| b.setWidth 16 <<< 8, ckidx := 0, fstate := .validate } := by
  rw [State.checksumComplete, hk]
  rfl

/-- The checksum is not among the bytes that the CRC covers (R202). -/
theorem checksumComplete_crcMatches {s : State} {b : Byte} (hk : s.ckidx = 1)
    (hcrc : crc16 s.coveredBytes = s.ck ||| b.setWidth 16 <<< 8) : (s.checksumComplete b).crcMatches = true := by
  rw [checksumComplete_of_second b hk]
  exact beq_iff_eq.mpr hcrc

theorem actsOn_eq_false_iff (s : State) : s.actsOn = false ↔ ¬ Recognised s.params s.idByte ∨ s.len.toNat < 8 := by
  rw [← Bool.not_eq_true, actsOn_iff, not_and_or, Nat.not_le]

/-- Settles O37: the accepted packet is not dispatched. -/
theorem unrecognisedPacketOnlyCounted : Obligations.UnrecognisedPacketOnlyCounted := by
  intro s b hf hk hcrc hnot
  have hignored : (s.checksumComplete b).actsOn = false := (actsOn_eq_false_iff _).mpr hnot
  have heffect := FrameEffect.secondChecksum (b := b) hf hk
  rw [validate_of_ignored (checksumComplete_crcMatches hk hcrc) hignored, checksumComplete_of_second b hk] at heffect
  exact heffect.framesTo

/-- Settles O38: the accepted packet is dispatched, and the dispatcher's values are the table values of the payload. -/
theorem recognisedPacketWritesChannels : Obligations.RecognisedPacketWritesChannels := by
  intro s b hf hk hcrc hrec hlen
  have hdispatched : (s.checksumComplete b).actsOn = true := (actsOn_iff _).mpr ⟨hrec, hlen⟩
  have haxis : (s.checksumComplete b).axis = tableValue s.params.offsetK s.dataByte :=
    funext (axis_eq_tableValue (s.checksumComplete b))
  have heffect := FrameEffect.secondChecksum (b := b) hf hk
  rw [validate_of_dispatched (checksumComplete_crcMatches hk hcrc) hdispatched, haxis,
    checksumComplete_of_second b hk] at heffect
  exact heffect.framesTo

/-! ## Channel writes need a match (R206) -/

/-- Between `s` and `t` a packet was completed whose CRC is its checksum, and it was counted as accepted. -/
structure AcceptsPacket (s t : State) : Prop where
  awaiting : s.fstate = .awaitChecksum
  lastByte : s.ckidx = 1
  counted : t.acceptCnt = s.acceptCnt + 1
  crc_eq : crc16 s.coveredBytes = t.ck

/-- No channel was written between `s` and `t`. -/
def EmitsNoWrite (s t : State) : Prop := ∃ new, t.out = s.out ++ new ∧ ∀ e ∈ new, e.isChWrite = false

theorem EmitsNoWrite.of_silent {s t : State} (hout : t.out = s.out) : EmitsNoWrite s t := ⟨[], by simp [hout], nofun⟩

theorem emit_emitsNoWrite (s : State) {e : Event} (he : e.isChWrite = false) : EmitsNoWrite s (s.emit e) :=
  ⟨[e], rfl, by simpa using he⟩

theorem pollTick_emitsNoWrite (s : State) : EmitsNoWrite s s.pollTick := by
  cases hp : s.presence with
  | true => exact ⟨[.hsResult true], by rw [pollTick_of_presence hp], by decide⟩
  | false =>
    by_cases hb : s.hsCount + 1 = s.params.pollBound
    · exact ⟨[.rxRelease, .hsResult false], by rw [pollTick_of_bound hp hb], by decide⟩
    · exact .of_silent (by rw [pollTick_of_waiting hp hb])

/-- A framer step that emits anything ends in the accept branch of `Validate()`. -/
theorem FrameEffect.silent_or_accepts {b : Byte} {s t : State} (h : FrameEffect b s t) :
    t.out = s.out ∨ AcceptsPacket s t := by
  cases h with
  | secondChecksum hf hk =>
    cases hm : (s.checksumComplete b).crcMatches with
    | false => rw [validate_of_mismatch hm]; exact .inl rfl
    | true =>
      refine .inr ⟨hf, hk, (validate_counts_of_match hm).1, ?_⟩
      rw [validate_ck]
      exact beq_iff_eq.mp hm
  | _ => exact .inl rfl

theorem ExecEffect.emitsNoWrite_or_accepts {i : Instr} {s t : State} (h : ExecEffect s i t) :
    EmitsNoWrite s t ∨ AcceptsPacket s t := by
  cases h with
  | pulseByte _ _ _ _ _ _ hframe =>
    refine hframe.silent_or_accepts.imp (fun hout => ?_) fun haccepts => { haccepts with }
    exact ⟨_, hout.trans rfl, by simp [Event.isChWrite]⟩
  | byteFramed _ _ _ _ hframe => exact hframe.silent_or_accepts.imp_left .of_silent
  | hsstart => exact .inl (emit_emitsNoWrite s.openSession rfl)
  | hstickPolls => exact .inl (pollTick_emitsNoWrite s)
  | rd | rdUnmapped => exact .inl (emit_emitsNoWrite _ rfl)
  | _ => exact .inl (.of_silent rfl)

/-- Settles O39: a command either emits no write or completes a packet whose CRC is its checksum. -/
theorem channelWriteNeedsCrcMatch : Obligations.ChannelWriteNeedsCrcMatch := by
  intro i s t hexec
  have heffect := exec_effect hexec
  rcases heffect.emitsNoWrite_or_accepts with ⟨new, hout, hno⟩ | haccepts
  · refine ⟨new, hout, ?_⟩
    rintro ⟨e, he, hwrite⟩
    cases (hno e he).symm.trans hwrite
  · obtain ⟨new, hout, _⟩ := heffect.tableFollows
    exact ⟨new, hout, fun _ => ⟨haccepts.awaiting, haccepts.lastByte, haccepts.counted, haccepts.crc_eq⟩⟩

/-! ## When the counters move (R204) -/

/-- Neither counter moved. -/
def KeepsCounters (s t : State) : Prop := t.acceptCnt = s.acceptCnt ∧ t.rejectCnt = s.rejectCnt

/-- One of the counters moved, by one. -/
def CountsOne (s t : State) : Prop :=
  (t.acceptCnt = s.acceptCnt + 1 ∧ t.rejectCnt = s.rejectCnt) ∨
    (t.acceptCnt = s.acceptCnt ∧ t.rejectCnt = s.rejectCnt + 1)

/-- The counters move only where the last checksum byte of a packet is taken. -/
def CountsOnlyValidation (s t : State) : Prop :=
  KeepsCounters s t ∨
    (s.fstate = .awaitChecksum ∧ s.ckidx = 1 ∧ t.fstate = .awaitHeader ∧ CountsOne s t)

theorem validate_countsOne (s : State) : CountsOne s (validate s) := by
  cases hm : s.crcMatches with
  | true => exact .inl (validate_counts_of_match hm)
  | false => rw [validate_of_mismatch hm]; exact .inr ⟨rfl, rfl⟩

theorem FrameEffect.countsOnlyValidation {b : Byte} {s t : State} (h : FrameEffect b s t) :
    CountsOnlyValidation s t := by
  cases h with
  | secondChecksum hf hk => exact .inr ⟨hf, hk, validate_fstate _, validate_countsOne (s.checksumComplete b)⟩
  | _ => exact .inl ⟨rfl, rfl⟩

theorem pollTick_keepsCounters (s : State) : KeepsCounters s s.pollTick := by
  rw [pollTick_frame]
  exact ⟨rfl, rfl⟩

theorem ExecEffect.countsOnlyValidation {i : Instr} {s t : State} (h : ExecEffect s i t) (hi : i ≠ .hsstart) :
    CountsOnlyValidation s t := by
  cases h with
  | pulseByte _ _ _ _ _ _ hframe => exact hframe.countsOnlyValidation
  | byteFramed _ _ _ _ hframe => exact hframe.countsOnlyValidation
  | hsstart => exact absurd rfl hi
  | hstickPolls => exact .inl (pollTick_keepsCounters s)
  | _ => exact .inl ⟨rfl, rfl⟩

/-! ## Nothing but RD depends on the counters (R204) -/

/-- The verdict and the dispatcher do not look at the counters (R208). -/
theorem validate_withCounters (s : State) (a r : Word) :
    ∃ a' r', validate { s with acceptCnt := a, rejectCnt := r } =
      { validate s with acceptCnt := a', rejectCnt := r' } := by
  have hcrc : { s with acceptCnt := a, rejectCnt := r }.crcMatches = s.crcMatches := rfl
  have hacts : { s with acceptCnt := a, rejectCnt := r }.actsOn = s.actsOn := rfl
  cases hm : s.crcMatches with
  | false =>
    rw [validate_of_mismatch hm, validate_of_mismatch (hcrc.trans hm)]
    exact ⟨a, r + 1, rfl⟩
  | true =>
    cases ha : s.actsOn with
    | false =>
      rw [validate_of_ignored hm ha, validate_of_ignored (hcrc.trans hm) (hacts.trans ha)]
      exact ⟨a + 1, r, rfl⟩
    | true =>
      rw [validate_of_dispatched hm ha, validate_of_dispatched (hcrc.trans hm) (hacts.trans ha)]
      exact ⟨a + 1, r, rfl⟩

theorem FrameEffect.withCounters {b : Byte} {s t : State} (a r : Word) (h : FrameEffect b s t) :
    ∃ a' r', FrameEffect b { s with acceptCnt := a, rejectCnt := r } { t with acceptCnt := a', rejectCnt := r' } := by
  cases h with
  | marker hf hb => exact ⟨a, r, .marker hf hb⟩
  | noise hf hb => exact ⟨a, r, .noise hf hb⟩
  | ident hf => exact ⟨a, r, .ident hf⟩
  | emptyLength hf hb => exact ⟨a, r, .emptyLength hf hb⟩
  | length hf hb => exact ⟨a, r, .length hf hb⟩
  | payload hf hi hl => exact ⟨a, r, .payload hf hi hl⟩
  | lastPayload hf hi hl => exact ⟨a, r, .lastPayload hf hi hl⟩
  | trailer hf => exact ⟨a, r, .trailer hf⟩
  | firstChecksum hf hk => exact ⟨a, r, .firstChecksum hf hk⟩
  | secondChecksum hf hk =>
    obtain ⟨a', r', hvalidate⟩ := validate_withCounters (s.checksumComplete b) a r
    exact ⟨a', r', hvalidate ▸ .secondChecksum hf hk⟩

theorem pollTick_withCounters (s : State) (a r : Word) :
    { s with acceptCnt := a, rejectCnt := r }.pollTick = { s.pollTick with acceptCnt := a, rejectCnt := r } := by
  simp only [State.pollTick]
  split
  · rfl
  · split <;> rfl

/-- Each counter is shown in a register of its own alone (R45). -/
theorem readReg_withCounters {reg : Reg} (s : State) (a r : Word) (haccept : reg ≠ .acceptCnt)
    (hreject : reg ≠ .rejectCnt) :
    { s with acceptCnt := a, rejectCnt := r }.readReg reg = s.readReg reg := by
  cases reg with
  | acceptCnt => exact absurd rfl haccept
  | rejectCnt => exact absurd rfl hreject
  | _ => rfl

/-- A command goes the same way whatever the counters hold, unless it reads one of them. -/
theorem ExecEffect.withCounters {i : Instr} {s t : State} (a r : Word) (h : ExecEffect s i t)
    (haccept : i ≠ .rd 0x0004) (hreject : i ≠ .rd 0x0005) :
    ∃ a' r', ExecEffect { s with acceptCnt := a, rejectCnt := r } i { t with acceptCnt := a', rejectCnt := r' } := by
  cases h with
  | nop => exact ⟨a, r, .nop⟩
  | mismatch _ h => exact ⟨a, r, .mismatch _ h⟩
  | wrIllegal _ _ hc hu => exact ⟨a, r, .wrIllegal _ _ hc hu⟩
  | burst hf => exact ⟨a, r, .burst hf⟩
  | pulseDropped _ _ hf hr => exact ⟨a, r, .pulseDropped _ _ hf hr⟩
  | pulseShort _ _ hf hr hc => exact ⟨a, r, .pulseShort _ _ hf hr hc⟩
  | pulseByte _ _ _ hf hr hc hframe =>
    obtain ⟨a', r', hframe'⟩ := hframe.withCounters a r
    exact ⟨a', r', .pulseByte _ _ _ hf hr hc hframe'⟩
  | byteDropped _ hf hr => exact ⟨a, r, .byteDropped _ hf hr⟩
  | byteFramed _ _ hf hr hframe =>
    obtain ⟨a', r', hframe'⟩ := hframe.withCounters a r
    exact ⟨a', r', .byteFramed _ _ hf hr hframe'⟩
  | hsstart => exact ⟨0, 0, .hsstart⟩
  | hstickInert h => exact ⟨a, r, .hstickInert h⟩
  | hstickPolls hp => exact ⟨a, r, pollTick_withCounters s a r ▸ .hstickPolls hp⟩
  | rd _ reg hreg =>
    have hne_accept : reg ≠ .acceptCnt := by
      rintro rfl
      exact haccept (congrArg Instr.rd (regAt_eq_some.mp hreg))
    have hne_reject : reg ≠ .rejectCnt := by
      rintro rfl
      exact hreject (congrArg Instr.rd (regAt_eq_some.mp hreg))
    have heffect := ExecEffect.rd (s := { s with acceptCnt := a, rejectCnt := r }) _ reg hreg
    rw [readReg_withCounters s a r hne_accept hne_reject] at heffect
    exact ⟨a, r, heffect⟩
  | rdUnmapped _ hr => exact ⟨a, r, .rdUnmapped _ hr⟩
  | wrCtrl _ _ hr => exact ⟨a, r, .wrCtrl _ _ hr⟩
  | wrUnitZero _ hr => exact ⟨a, r, .wrUnitZero _ hr⟩
  | wrUnit _ _ hr hd => exact ⟨a, r, .wrUnit _ _ hr hd⟩

/-- Settles O52: only `Validate()` counts, by one, and what a command does is the same for any two counter values. -/
theorem countersOnlyCountValidations : Obligations.CountersOnlyCountValidations := by
  refine ⟨fun i s t hi hexec => (exec_effect hexec).countsOnlyValidation hi,
    fun i s t a r haccept hreject hexec => ?_⟩
  obtain ⟨a', r', heffect⟩ := (exec_effect hexec).withCounters a r haccept hreject
  exact ⟨a', r', exec_of_effect heffect⟩

end Sys2Proof.Machine

/-! SUPPORT. The statements about the channel mapper (43_channel_mapper.md): what a dispatch leaves alone and the table it
makes (R231, R236), so that dispatching again changes nothing in it (R238). -/

namespace Sys2Proof.Machine

/-- A dispatch leaves the packet, so the packet is acted upon as before. -/
theorem dispatch_actsOn (s : State) : (dispatch s).actsOn = s.actsOn := by
  simp only [State.actsOn, dispatch_params, dispatch_idByte, dispatch_len]

/-- A dispatch leaves the payload, so its samples keep their channel values (R232, R233). -/
theorem dispatch_axis (s : State) : (dispatch s).axis = s.axis := by
  have hbyte (k : Nat) : (dispatch s).dataByte k = s.dataByte k := dataByte_congr (by simp) (by simp)
  exact funext fun i => axis_congr i (dispatch_params s) (hbyte (2 * i)) (hbyte (2 * i + 1))

/-- The dispatched table is a function of the packet alone, whatever the table held (R231, R236). -/
theorem dispatch_ch_of_actsOn {s : State} (h : s.actsOn = true) :
    (dispatch s).ch = #v[s.axis 0, s.axis 1, s.axis 2, s.axis 3] := by
  rw [dispatch_of_actsOn s.axis h rfl]

/-- Settles O42: a packet acted upon overwrites the whole table with the same four values again, and any other packet
leaves the state alone. -/
theorem dispatchIsIdempotentOnTable : Obligations.DispatchIsIdempotentOnTable := by
  intro s
  cases hacts : s.actsOn with
  | true =>
    have hagain : (dispatch s).actsOn = true := (dispatch_actsOn s).trans hacts
    rw [dispatch_ch_of_actsOn hagain, dispatch_axis, dispatch_ch_of_actsOn hacts]
  | false => exact congrArg (fun t => (dispatch t).ch) (dispatch_of_not_actsOn hacts)

end Sys2Proof.Machine

/-! SUPPORT. The statements about the presence handshake (44_handshake.md): what HSSTART and HSTICK do (R261 to R267),
which commands move HS_STATE (R260) and release the receiver (R265), and the bound on the poll (R268). -/

namespace Sys2Proof.Machine

/-! ## HSSTART and HSTICK (R261 to R267) -/

/-- Settles O45: HSSTART has one effect, from every state. -/
theorem hsstartOpensFreshSession : Obligations.HsstartOpensFreshSession := fun _ => exec_of_effect .hsstart

/-- Settles O46: a tick in POLLING reads PRESENCE first, and the bound only where nothing was seen. -/
theorem hstickPolls : Obligations.HstickPolls := by
  intro s hpolling
  have htick : exec .hstick s = .next s.pollTick := exec_of_effect (.hstickPolls hpolling)
  exact ⟨fun hp => htick.trans (congrArg _ (pollTick_of_presence hp)),
    fun hp hb => htick.trans (congrArg _ (pollTick_of_bound hp hb)),
    fun hp hb => htick.trans (congrArg _ (pollTick_of_waiting hp hb))⟩

/-- Settles O47: outside POLLING a tick has one effect, none at all. -/
theorem hstickOutsidePollingIsInert : Obligations.HstickOutsidePollingIsInert := fun _ hidle =>
  exec_of_effect (.hstickInert hidle)

/-! ## What moves HS_STATE (R260) -/

/-- Everything a tick in POLLING can do (R263 to R265). -/
inductive TickEffect (s : State) : State → Prop where
  | succeeds : s.presence = true →
      TickEffect s { s with hsCount := s.hsCount + 1, hsState := .success, out := s.out ++ [.hsResult true] }
  | fails : s.presence = false → s.hsCount + 1 = s.params.pollBound →
      TickEffect s { s with
        hsCount := s.hsCount + 1, hsState := .failed, rxEn := false,
        out := s.out ++ [.rxRelease, .hsResult false] }
  | waits : s.presence = false → s.hsCount + 1 ≠ s.params.pollBound →
      TickEffect s { s with hsCount := s.hsCount + 1 }

theorem pollTick_effect (s : State) : TickEffect s s.pollTick := by
  cases hp : s.presence with
  | true => rw [pollTick_of_presence hp]; exact .succeeds hp
  | false =>
    by_cases hb : s.hsCount + 1 = s.params.pollBound
    · rw [pollTick_of_bound hp hb]; exact .fails hp hb
    · rw [pollTick_of_waiting hp hb]; exact .waits hp hb

/-- The handshake belongs to HSSTART and HSTICK: the front end's commands keep the session, and the others do not reach
it. -/
theorem ExecEffect.handshake_eq_of_other {i : Instr} {s t : State} (h : ExecEffect s i t) (hstart : i ≠ .hsstart)
    (htick : i ≠ .hstick) : t.hsState = s.hsState ∧ t.hsCount = s.hsCount := by
  cases i with
  | hsstart => exact absurd rfl hstart
  | hstick => exact absurd rfl htick
  | pulse | byte =>
    have hkeeps := h.keepsSession_of_isReceive rfl
    exact ⟨hkeeps.hsState_eq, hkeeps.hsCount_eq⟩
  | nop | burst | rd | wr => exact h.handshake_eq rfl htick

/-- A tick outside POLLING does nothing; one in POLLING is the poll's. -/
theorem ExecEffect.inert_or_tick {s t : State} (h : ExecEffect s .hstick t) :
    (s.hsState ≠ .polling ∧ t = s) ∨ (s.hsState = .polling ∧ TickEffect s t) := by
  cases h with
  | mismatch _ hno => cases hno
  | hstickInert hinert => exact .inl ⟨hinert, rfl⟩
  | hstickPolls hpolling => exact .inr ⟨hpolling, pollTick_effect s⟩

/-- Settles O48: HSSTART leads to POLLING, and a tick out of POLLING has succeeded or failed. -/
theorem handshakeTransitions : Obligations.HandshakeTransitions := by
  intro i s t hexec
  have heffect := exec_effect hexec
  by_cases hstart : i = .hsstart
  · subst hstart
    cases hexec
    exact .inr (.inl ⟨rfl, rfl⟩)
  by_cases htick : i = .hstick
  · subst htick
    obtain ⟨_, rfl⟩ | ⟨hpolling, htick⟩ := heffect.inert_or_tick
    · exact .inl rfl
    · cases htick with
      | succeeds hp => exact .inr (.inr (.inl ⟨rfl, hpolling, hp, rfl⟩))
      | fails hp hb => exact .inr (.inr (.inr ⟨rfl, hpolling, hp, hb, rfl⟩))
      | waits => exact .inl rfl
  · exact .inl (heffect.handshake_eq_of_other hstart htick).1

/-! ## What releases the receiver (R265) -/

/-- The receive resource was not released between `s` and `t`. -/
def EmitsNoRelease (s t : State) : Prop := ∃ new, t.out = s.out ++ new ∧ .rxRelease ∉ new

theorem EmitsNoRelease.of_silent {s t : State} (hout : t.out = s.out) : EmitsNoRelease s t :=
  ⟨[], by simp [hout], nofun⟩

theorem EmitsNoRelease.trans {s t u : State} (hst : EmitsNoRelease s t) (htu : EmitsNoRelease t u) :
    EmitsNoRelease s u := by
  obtain ⟨es, hes, hno⟩ := hst
  obtain ⟨fs, hfs, hno'⟩ := htu
  exact ⟨es ++ fs, by rw [hfs, hes, List.append_assoc], by simp [hno, hno']⟩

theorem emit_emitsNoRelease (s : State) {e : Event} (he : .rxRelease ≠ e) : EmitsNoRelease s (s.emit e) :=
  ⟨[e], rfl, by simpa using he⟩

theorem pulseEmitted_emitsNoRelease (s : State) (bits : Byte) : EmitsNoRelease s (s.pulseEmitted bits) :=
  emit_emitsNoRelease s.clearAccumulator (e := .byteOut bits) nofun

/-- A framer step emits channel writes alone. -/
theorem FrameEffect.emitsNoRelease {b : Byte} {s t : State} (h : FrameEffect b s t) : EmitsNoRelease s t := by
  obtain ⟨writes, hout, hwrites⟩ := h.emits_writes
  exact ⟨writes, hout, fun hmem => absurd (hwrites _ hmem) nofun⟩

theorem ExecEffect.emitsNoRelease {i : Instr} {s t : State} (h : ExecEffect s i t) (htick : i ≠ .hstick) :
    EmitsNoRelease s t := by
  cases h with
  | pulseByte _ _ _ _ _ _ hframe =>
    exact (pulseEmitted_emitsNoRelease s _).trans hframe.emitsNoRelease
  | byteFramed _ _ _ _ hframe => exact hframe.emitsNoRelease
  | hsstart => exact emit_emitsNoRelease s.openSession nofun
  | hstickPolls => exact absurd rfl htick
  | rd | rdUnmapped => exact emit_emitsNoRelease _ nofun
  | _ => exact .of_silent rfl

/-- Settles O49: of the three effects of a tick only the failing one emits the release. -/
theorem releaseOnlyOnFailedPoll : Obligations.ReleaseOnlyOnFailedPoll := by
  intro i s t hexec
  have heffect := exec_effect hexec
  suffices EmitsNoRelease s t ∨ (i = .hstick ∧ s.hsState = .polling ∧ t.hsState = .failed ∧ t.rxEn = false ∧
      t.out = s.out ++ [.rxRelease, .hsResult false]) by
    obtain ⟨new, hout, hno⟩ | ⟨hi, hpolling, hfailed, hrx, hout⟩ := this
    · exact ⟨new, hout, fun hmem => absurd hmem hno⟩
    · exact ⟨_, hout, fun _ => ⟨hi, hpolling, hfailed, hrx, rfl⟩⟩
  by_cases htick : i = .hstick
  · subst htick
    obtain ⟨_, rfl⟩ | ⟨hpolling, htick⟩ := heffect.inert_or_tick
    · exact .inl (.of_silent rfl)
    · cases htick with
      | succeeds => exact .inl ⟨[.hsResult true], rfl, by decide⟩
      | fails => exact .inr ⟨rfl, hpolling, rfl, rfl, rfl⟩
      | waits => exact .inl (.of_silent rfl)
  · exact .inl (heffect.emitsNoRelease htick)

/-! ## The bound on the poll (R268) -/

/-- Under the invariant no command stops: DIDX is below LEN where the framer stores, hence inside the buffer (R39). -/
theorem State.Inv.exec_completes {s : State} (hs : s.Inv) (i : Instr) : ∃ t, exec i s = .next t := by
  refine Machine.exec_completes i s hs.notValidating fun hf => ?_
  have hindex := hs.dataIndex hf
  have hlen := s.len.isLt
  simp only [Config.payloadCap]
  omega

/-- A poll was started, and `n` more ticks end it at the latest: HS_COUNT is then at the bound. -/
structure PollEndsWithin (n : Nat) (s : State) : Prop where
  inv : s.Inv
  started : s.hsState ≠ .idle
  bound : s.hsState = .polling → s.params.pollBound.toNat ≤ s.hsCount.toNat + n

/-- With no tick left to wait for, POLLING would put HS_COUNT at the bound, against the invariant. -/
theorem PollEndsWithin.ended {s : State} (h : PollEndsWithin 0 s) : s.hsState = .success ∨ s.hsState = .failed := by
  cases hstate : s.hsState with
  | idle => exact absurd hstate h.started
  | polling => exact absurd (h.inv.pollingCount hstate) (h.bound hstate).not_gt
  | success => exact .inl rfl
  | failed => exact .inr rfl

theorem openSession_pollEndsWithin {s t : State} {n : Nat} (hs : s.Inv) (hexec : exec .hsstart s = .next t)
    (hn : s.params.pollBound.toNat ≤ n) : PollEndsWithin n t where
  inv := (exec_effect hexec).inv hs
  started := by cases hexec; nofun
  bound := by cases hexec; exact fun _ => hn.trans (Nat.le_add_left _ _)

/-- A tick uses up one of the ticks left: it counts, or the poll is over. -/
theorem PollEndsWithin.tick {s t : State} {n : Nat} (h : PollEndsWithin (n + 1) s) (hexec : ExecEffect s .hstick t) :
    PollEndsWithin n t where
  inv := hexec.inv h.inv
  started := by
    obtain ⟨_, rfl⟩ | ⟨_, htick⟩ := hexec.inert_or_tick
    · exact h.started
    · cases htick with
      | succeeds | fails => nofun
      | waits => exact h.started
  bound := by
    obtain ⟨hinert, rfl⟩ | ⟨hpolling, htick⟩ := hexec.inert_or_tick
    · exact fun hpolling => absurd hpolling hinert
    · cases htick with
      | succeeds | fails => nofun
      | waits =>
        have hsucc := toNat_add_one_of_lt (h.inv.pollingCount hpolling)
        have hbound := h.bound hpolling
        exact fun _ => by simp only [hsucc]; omega

/-- Whatever else arrives leaves the poll where it is. -/
theorem PollEndsWithin.other {i : Instr} {s t : State} {n : Nat} (h : PollEndsWithin n s) (hexec : ExecEffect s i t)
    (hstart : i ≠ .hsstart) (htick : i ≠ .hstick) : PollEndsWithin n t := by
  obtain ⟨hstate, hcount⟩ := hexec.handshake_eq_of_other hstart htick
  exact ⟨hexec.inv h.inv, hstate ▸ h.started, by rw [hstate, hcount, hexec.params_eq]; exact h.bound⟩

/-- The ticks among the commands are all that counts. -/
theorem PollEndsWithin.run {cmds : List Instr} {s : State} (h : PollEndsWithin (cmds.count .hstick) s)
    (hcmds : ∀ i ∈ cmds, i ≠ .hsstart) : ∃ t, runCommands cmds s = .next t ∧ PollEndsWithin 0 t := by
  induction cmds generalizing s with
  | nil => exact ⟨s, rfl, h⟩
  | cons i cmds ih =>
    obtain ⟨hstart, hrest⟩ := List.forall_mem_cons.mp hcmds
    obtain ⟨u, hexec⟩ := h.inv.exec_completes i
    have heffect := exec_effect hexec
    rw [runCommands_cons_of_next cmds hexec]
    by_cases htick : i = .hstick
    · subst htick
      rw [List.count_cons_self] at h
      exact ih (h.tick heffect) hrest
    · rw [List.count_cons_of_ne htick] at h
      exact ih (h.other heffect hstart htick) hrest

/-- Settles O50: HSSTART leaves a poll that ends within POLL_BOUND ticks, and the commands hold as many. -/
theorem handshakeIsBounded : Obligations.HandshakeIsBounded := by
  intro s cmds hs hcmds hticks
  obtain ⟨u, hexec⟩ := hs.exec_completes .hsstart
  obtain ⟨t, hrun, hend⟩ := (openSession_pollEndsWithin hs hexec hticks).run hcmds
  exact ⟨t, (runCommands_cons_of_next cmds hexec).trans hrun, hend.ended⟩

end Sys2Proof.Machine

/-! SUPPORT. The statements about the register accesses (45_register_access.md): what NOP (R290), RD of a mapped and of
an unmapped address (R291, R293) and WR (R294 to R296) do, and which of their words are malformed (R106). -/

namespace Sys2Proof.Machine

/-! ## RD (R291, R293) -/

/-- A flag alone in a word reads as 0 or 1. -/
theorem flagBit_eq_ite (b : Bool) : flagBit b = if b then 1 else 0 := by cases b <;> rfl

/-- Settles O16: no register answers from 0x000B on, and field B of an RD word must be 0. -/
theorem rdUnmappedAnswersZero : Obligations.RdUnmappedAnswersZero := by
  refine ⟨fun s addr haddr => exec_of_effect (.rdUnmapped addr (regAt_eq_none.mpr haddr)), fun w hop hb => ?_⟩
  have hcode : (w.extractLsb' 32 8).toNat = 6 := congrArg BitVec.toNat hop
  exact malformedWordsRaiseIllegal w (.inr (.inr (.inr ⟨hcode, hb⟩)))

/-- Settles O12: each address is its register's, and CTRL reads as RX_EN. -/
theorem rdReturnsRegister : Obligations.RdReturnsRegister := by
  intro s
  have hread (r : Reg) : exec (.rd r.addr) s = .next { s with out := s.out ++ [.rsp (s.readReg r)] } :=
    exec_rd_of_mapped s (regAt_addr r)
  rw [← flagBit_eq_ite]
  exact ⟨hread .ctrl, hread .unit, hread .status, hread .accum, hread .acceptCnt, hread .rejectCnt, hread .hsCount,
    hread .pkt0, hread .pkt1, hread .params, hread .params2⟩

/-! ## WR (R294 to R296) -/

/-- A register does not answer above its address (R45). -/
theorem regAt_ne_of_addr_lt {addr : Half} {r : Reg} (h : r.addr.toNat < addr.toNat) : regAt addr ≠ some r :=
  fun hr => h.ne' (congrArg BitVec.toNat (regAt_eq_some.mp hr))

/-- Settles O19: an address from 0x0002 on is above CTRL's and UNIT's, the two that take a write. -/
theorem wrReadOnlyRaisesIllegal : Obligations.WrReadOnlyRaisesIllegal := by
  intro s addr data haddr
  have hctrl : Reg.ctrl.addr.toNat < addr.toNat := Nat.lt_of_lt_of_le (by decide) haddr
  have hunit : Reg.unit.addr.toNat < addr.toNat := Nat.lt_of_lt_of_le (by decide) haddr
  exact exec_wr_of_not_writable (regAt_ne_of_addr_lt hctrl) (regAt_ne_of_addr_lt hunit)

/-- Settles O17: bit 0 of the data is its parity. -/
theorem wrCtrlSetsReceiveEnable : Obligations.WrCtrlSetsReceiveEnable := by
  intro s data
  have hbit : data.getLsbD 0 = decide (data.toNat % 2 = 1) := Nat.testBit_zero data.toNat
  rw [← hbit]
  exact exec_of_effect (.wrCtrl 0x0000 data (regAt_addr .ctrl))

/-- Settles O18: the two effects of a write to UNIT, for 0 and for any other value. -/
theorem wrUnitStoresLegalValues : Obligations.WrUnitStoresLegalValues := fun _ =>
  ⟨exec_of_effect (.wrUnitZero 0x0001 (regAt_addr .unit)),
    fun data hdata => exec_of_effect (.wrUnit 0x0001 data (regAt_addr .unit) hdata)⟩

/-! ## NOP (R290) -/

/-- A word is its opcode above its 32 operand bits (R101). -/
theorem opcode_append_operands (w : CommandWord) :
    (w.extractLsb' 32 8 ++ w.extractLsb' 0 32 : BitVec (8 + 32)) = w :=
  (BitVec.extractLsb'_append_extractLsb'_eq_extractLsb' (len₁ := 32) (len₂ := 8) rfl).trans
    BitVec.extractLsb'_eq_self

/-- Settles O11: the only word with opcode 0 and no operand bit set is 0, and any other with that opcode is
malformed. -/
theorem nopHasNoEffect : Obligations.NopHasNoEffect := by
  refine ⟨rfl, decode_encode .nop, fun s => exec_of_effect .nop, fun w hop hw => ?_⟩
  have hcode : (w.extractLsb' 32 8).toNat ∈ [0, 1, 4, 5] := by simp [hop]
  have hoperands : w.extractLsb' 0 32 ≠ 0 := by
    intro hzero
    refine hw ?_
    rw [← opcode_append_operands w, hop, hzero]
    rfl
  exact malformedWordsRaiseIllegal w (.inr (.inl ⟨hcode, hoperands⟩))

end Sys2Proof.Machine

/-! SUPPORT. The statements about errors and idling (60_exceptions.md): a rejected packet (R324), a step with nothing
pending (R334), and that no step from a state of the invariant stops (R320). -/

namespace Sys2Proof.Machine

/-! ## A packet whose CRC differs (R203, R324) -/

/-- The checksum is not among the bytes that the CRC covers (R202), so the verdict is on the bytes held before. -/
theorem checksumComplete_crcMismatch {s : State} {b : Byte} (hk : s.ckidx = 1)
    (hcrc : crc16 s.coveredBytes ≠ s.ck ||| b.setWidth 16 <<< 8) : (s.checksumComplete b).crcMatches = false := by
  rw [checksumComplete_of_second b hk]
  exact beq_eq_false_iff_ne.mpr hcrc

/-- Settles O36: the second checksum byte runs `Validate()`, which rejects. -/
theorem mismatchRejectsPacket : Obligations.MismatchRejectsPacket := by
  intro s b hf hk hcrc
  have heffect := FrameEffect.secondChecksum (b := b) hf hk
  rw [validate_of_mismatch (checksumComplete_crcMismatch hk hcrc), checksumComplete_of_second b hk] at heffect
  exact heffect.framesTo

/-! ## A step by what is pending (R334, R350) -/

theorem step_of_idle {s : State} (hlegal : s.params.legal = true) (hp : s.pending = []) : step s = .next s := by
  simp only [step, if_pos hlegal, hp]

theorem step_of_reset {s : State} {rest : List PortInput} (hlegal : s.params.legal = true)
    (hp : s.pending = .reset :: rest) : step s = .next { s with pending := rest }.portReset := by
  simp only [step, if_pos hlegal, hp, takeReset]

/-- Settles O7, by the branch of the step for an empty input stream. -/
theorem idleStepHoldsState : Obligations.IdleStepHoldsState := fun _ => step_of_idle

/-! ## No step stops (R320, R362) -/

/-- No clause of the invariant speaks of the inputs still to come or of the events. -/
theorem State.Inv.beginCommand {s : State} (hs : s.Inv) (rest : List PortInput) : (s.beginCommand rest).Inv :=
  { hs with }

/-- Settles O60, by what is pending: idling and a reset always complete, a word that is no command raises IllegalCommand
in place, and under the invariant a command completes. -/
theorem stepNeverStops : Obligations.StepNeverStops := by
  intro s hs
  match hp : s.pending with
  | [] => exact ⟨s, step_of_idle hs.legal hp⟩
  | .reset :: rest => exact ⟨_, step_of_reset hs.legal hp⟩
  | .command w :: rest =>
    cases hd : decode w with
    | error e => exact ⟨_, step_of_decode_error hs.legal hp hd⟩
    | ok i =>
      obtain ⟨t, hexec⟩ := (hs.beginCommand rest).exec_completes i
      exact ⟨t.recordEvents, by rw [step_of_decode hs.legal hp hd, hexec, endCommand]⟩

end Sys2Proof.Machine

/-! SUPPORT. The statement about a reset between two commands (70_reset_and_hazards.md R350, R352). -/

namespace Sys2Proof.Machine

/-- Settles O8: the step is `portReset` of the state without the input taken, so the field laws of `portReset` give each
value. -/
theorem resetInputReinitialises : Obligations.ResetInputReinitialises := by
  intro s rest hlegal hp
  refine ⟨{ s with pending := rest }.portReset, step_of_reset hlegal hp, ?_⟩
  simp

end Sys2Proof.Machine
